-- ==== Sys2Proof/Word.lean ====
section
/-! DEFINITION. The byte, the slot number, tables of a fixed length and the plainest arithmetic the rules name. -/

namespace Sys2Proof

/-- A byte of a frame (spec 11_frame_and_record_layouts.md). -/
abbrev Byte := BitVec 8

/-- A shelf slot, 0..11 (R62). -/
abbrev Slot := Fin 12

/-- A set of slots: bit k stands for slot k (R177). -/
abbrev SlotSet := BitVec 12

/-- Division rounded up; the rules' "ceil" (R82, R83). -/
def ceilDiv (a b : Nat) : Nat := (a + b - 1) / b

/-- A table with every entry replaced by its image. -/
def vmap {α β : Type} {n : Nat} (f : α → β) (v : Vector α n) : Vector β n :=
  ⟨⟨v.toList.map f⟩, by simp⟩

/-- The table whose entry k is `f k`. -/
def vgen {α : Type} {n : Nat} (f : Fin n → α) : Vector α n :=
  ⟨⟨(List.finRange n).map f⟩, by simp⟩

/-- Entry `i` of a table becomes the image of what it was. -/
def vmod {α : Type} {n : Nat} (v : Vector α n) (i : Fin n) (f : α → α) : Vector α n :=
  v.set i (f v[i])

end Sys2Proof
end

