-- ==== Sys2Proof/Syntax.lean ====
section
/-! DEFINITION. The commands: one constructor for each row of spec/opcode_table.json, with what the command carries from outside. -/

namespace Sys2Proof

/-- The three master ports (00_scope.md, "Connections"). -/
inductive Port where
  | exchange   -- letter P
  | telemetry  -- letter T
  | craft      -- letter C
  deriving DecidableEq, Repr

/-- The two battery strings (R17). -/
inductive StringId where
  | strA
  | strB
  deriving DecidableEq, Repr

/-- Who created a run request (R123). -/
inductive Origin where
  | internal
  | schedule
  | port (q : Port)
  deriving DecidableEq, Repr

/-- Where a sample stands against its converter (R4): within it, or at one of its end stops. -/
inductive EndStop where
  | none
  | lower
  | upper
  deriving DecidableEq, Repr

/-- One converter sample, in the unit of R1, with the end stop it stands at, if any (R2, R4). -/
structure Sample where
  value : Int
  stop : EndStop
  deriving DecidableEq, Repr

/-- The four samples of one analog channel in one measurement period (R2). -/
structure AnalogPeriod where
  s0 : Sample
  s1 : Sample
  s2 : Sample
  s3 : Sample
  deriving DecidableEq, Repr

/-- What the front end delivers in one measurement period (R2): four samples for each analog channel 0..11, and one reading for each digital
input 16..28 (entry k is input 16 + k; `true` is the first level R1 names: closed, active or present). -/
structure Readings where
  analog : Vector AnalogPeriod 12
  inputs : Vector Bool 13
  deriving DecidableEq, Repr

/-- What a request frame carries beside its start byte and its request code (R158): the tag, the object index, the argument bytes and the
check byte, each as received. -/
structure Frame where
  tag : Byte
  index : Byte
  args : List Byte
  check : Byte
  deriving DecidableEq, Repr

/-- The commands. A row that names what comes about at a periodic step carries that step's readings (notes/assumptions/1.md). -/
inductive Instr where
  /-- POWER_ON (R171). Supply applied to the part: every block starts from its initial value, and start-up runs through load, restore, safe
  outputs, discovery and mains qualification. -/
  | powerOn
  /-- COLD_RESTART (R171). The RESET line restarts the part exactly as power-on does, abandoning any start-up, exchange, save or checkpoint write
  in progress. -/
  | coldRestart
  /-- MEASUREMENT_PERIOD (R2). At the completion of each 1 s period the MU forms period values, tests plausibility, updates every record and
  advances the input debounce. -/
  | measurementPeriod (r : Readings)
  /-- CHANNEL_LAPSE (R9). A held analog record becomes LAPSED at the completion that brings its held age to the channel's hold time. -/
  | channelLapse (ch : Fin 12) (r : Readings)
  /-- ACCOUNT_UPDATE (R21). Every 1 s the AU settles bands, chooses currents, rescales, applies charge or discharge, clamps, forms SoC and
  runtime, counts taper and anchor time, and evaluates imbalance. -/
  | accountUpdate
  /-- CURRENT_SUBSTITUTED (R22). When the current-lost count passes 10, or the record is lapsed, the AU uses 0 as the current and marks the
  account UNSURE. -/
  | currentSubstituted (g : StringId)
  /-- ANCHOR (R29). When taper minutes reach ANCHOR_MIN while the taper condition holds, the account is set full and ANCHORED. -/
  | anchor (g : StringId)
  /-- DRIFT_STALE (R31). An ANCHORED account whose hours since anchor reach DRIFT_LIMIT becomes STALE. -/
  | driftStale (g : StringId)
  /-- CHECKPOINT_COUNT_EXPIRY (R36). When the checkpoint count reaches 3600 it returns to 0 and a checkpoint is started. -/
  | checkpointCountExpiry
  /-- CHECKPOINT_WRITE_COMPLETE (R37). The checkpoint copy's validity mark is set, and any waiting checkpoint begins its write. -/
  | checkpointWriteComplete
  /-- TAPER_EXIT (R49). When the taper-exit seconds reach 900, BOOST or REFRESH ends in FLOAT with entry disarmed and refresh done set. -/
  | taperExit
  /-- BOOST_TIMER_EXPIRY (R48). When boost remaining reaches 0 at a minute event, the mode becomes FLOAT with entry disarmed and refresh done set.
  -/
  | boostTimerExpiry
  /-- SHED_DELAY_EXPIRY (R154). A stage whose disconnect count reaches SHED_DELAY opens as OPEN-AUTO if the nesting allows, or else becomes
  waiting. -/
  | shedDelayExpiry (k : Fin 4)
  /-- FOLLOW_TIME_EXPIRY (R154). A waiting stage whose follow time reaches 0 opens if its condition still holds, and passes a follow time to the
  stage above. -/
  | followTimeExpiry (k : Fin 4)
  /-- REC_DELAY_EXPIRY (R155). The highest open OPEN-AUTO stage whose reconnect count reaches REC_DELAY closes, provided the spacing is 2 or more.
  -/
  | recDelayExpiry (k : Fin 4)
  /-- MINUTE_EVENT (R170). Every 60 s the clock advances if set, and the boost timer, run minutes, rotation remaining and the RQU's minute work
  are taken. -/
  | minuteEvent
  /-- RECONCILE (R137). When the reconcile count reaches 15, or a reconcile is due, F is corrected from the sender for a refuel or for drift. -/
  | reconcile
  /-- SERVED_MINUTES_COMPLETE (R129). An EXERCISE or PORT-RUN record whose served minutes reach its minimum completes, raising REQUEST-DONE for a
  PORT-RUN record. -/
  | servedMinutesComplete (o : Origin)
  /-- ROTATION_EVENT (R95). When rotation remaining reaches 0, skip marks are cleared and, on MAINS with no swap in flight, a swap may begin by
  starting L. -/
  | rotationEvent
  /-- OUTAGE_TIMER_EXPIRY (R125). OUTAGE_DELAY_MIN after the source became NONE, a MAINS-FAIL record is created. -/
  | outageTimerExpiry (r : Readings)
  /-- DEMAND_EVALUATION (R81). Every 10 s, and at its listed causes, the RC forms n_need, places the setpoint and current limit, and updates the
  walk-in queue and the removal hold. -/
  | demandEvaluation
  /-- WALK_IN_TIMER_EXPIRY (R85). At the walk-in timer's expiry the next queued module starts if allowed, or else the timer becomes idle. -/
  | walkInTimerExpiry (r : Readings)
  /-- REMOVAL_HOLD_EXPIRY (R86). After REMOVE_HOLD_MIN the most-worn RUNNING module enters STOPPING and the hold begins afresh. -/
  | removalHoldExpiry (r : Readings)
  /-- START_WINDOW_EXPIRY (R89). A module still STARTING at START_WINDOW_S has a start mismatch: it goes to STANDBY with the skip mark set and a
  MODULE-MISMATCH report. -/
  | startWindowExpiry (k : Slot) (r : Readings)
  /-- DROPOUT_WATCH_EXPIRY (R89). A RUNNING module that replied OFF and has not replied ON within START_WINDOW_S has a run dropout, handled as a
  start mismatch. -/
  | dropoutWatchExpiry (k : Slot) (r : Readings)
  /-- STOP_CHECK (R89). At 10 s in STOPPING, a module whose present output state is ON or LIMIT is reported as a stop mismatch. -/
  | stopCheck (k : Slot) (r : Readings)
  /-- REST_EXPIRY (R92). After RECOVER_WAIT a RESTING module with no standing fault returns to STANDBY, or else rests again. -/
  | restExpiry (k : Slot) (r : Readings)
  /-- POLL_ATTEMPT_START (R65). After the turnaround, the SBC sends the first poll of the next exchange, formed from the module record, or the
  repeat of the one in flight. -/
  | pollAttemptStart
  /-- REPLY_FRAME_RECEIVED (R67). A complete reply frame in the window is judged good, or bad for CHECK, WRONG-SLOT or MALFORMED. -/
  | replyFrameReceived (bytes : List Byte)
  /-- REPLY_WINDOW_CLOSE (R67). A reply window that closes with no complete frame draws a NO-REPLY bad reply. -/
  | replyWindowClose
  /-- MAINS_FAIL (R103). When the mains count in FAILING reaches MAINS_FAIL_S, MC opens, any transfer TO-MAINS is abandoned and mains lost is set.
  -/
  | mainsFail (r : Readings)
  /-- MAINS_RETURN (R102). When the mains count in RETURNING reaches the return time, the mains becomes UP, mains lost clears and the return is
  handed to the RQU. -/
  | mainsReturn (r : Readings)
  /-- START_UP_PERIOD_END (R104). At the tenth supply evaluation after the round, the start-up period clears and mains lost is set if the mains is
  not UP. -/
  | startUpPeriodEnd (r : Readings)
  /-- BREAK_PHASE_END (R106). Once the opening contactor's auxiliary has been open for BREAK_MS with no inhibit, the closing contactor is
  commanded CLOSED. -/
  | breakPhaseEnd (ms : Nat)
  /-- PRESTART_EXPIRY (R111). When PRESTART_S runs out, the sequence enters CRANKING and the attempts rise. -/
  | prestartExpiry (r : Readings)
  /-- CRANK_EXPIRY (R111). When CRANK_S runs out with the engine not seen running, the sequence enters CRANK-REST, or LOCKED-OUT with fail-to-
  start set. -/
  | crankExpiry (r : Readings)
  /-- CRANK_REST_EXPIRY (R111). When REST_S runs out in CRANK-REST, the sequence cranks again. -/
  | crankRestExpiry (r : Readings)
  /-- WARMUP_EXPIRY (R112). When WARMUP_S runs out, warm-up done becomes set. -/
  | warmupExpiry (r : Readings)
  /-- TRANSFER_TO_GENERATOR_BEGIN (R112). With load called and the generator good count at GEN_QUAL_S, a transfer TO-GENERATOR begins and MC
  opens. -/
  | transferToGeneratorBegin (r : Readings)
  /-- QUALIFY_WAIT_EXPIRY (R112). A qualify wait that reaches 300 with no transfer begun locks the set out as a failed start. -/
  | qualifyWaitExpiry (r : Readings)
  /-- MINIMUM_RUN_ELAPSED (R113). Minimum run elapsed becomes set when the run seconds reach MINRUN_MIN × 60. -/
  | minimumRunElapsed (r : Readings)
  /-- COOLDOWN_EXPIRY (R115). When COOLDOWN_S runs out, the sequence enters STOPPING. -/
  | cooldownExpiry (r : Readings)
  /-- FAIL_TO_STOP (R115). After 30 s in STOPPING with the engine not absent, fail-to-stop is set. -/
  | failToStop (r : Readings)
  /-- STOP_PULSE_END (R121). When the start-up stop pulse reaches 0, the stop output goes off, or fail-to-stop is set if the engine is not seen
  absent. -/
  | stopPulseEnd (r : Readings)
  /-- DETECTOR_QUALIFIED (R144). A qualifying detector whose count reaches its qualify time becomes ACTIVE as a new occurrence, setting the unseen
  flags and raising DETECTOR-CHANGE. -/
  | detectorQualified (d : Fin 32) (r : Readings)
  /-- DETECTOR_HOLD_EXPIRY (R144). A HOLDING detector whose count reaches its hold time becomes CLEAR and raises DETECTOR-CHANGE. -/
  | detectorHoldExpiry (d : Fin 32) (r : Readings)
  /-- PROOF_PROVED (R150). A proved detector whose forced count reaches its qualify time becomes PROVED. -/
  | proofProved (d : Fin 32) (r : Readings)
  /-- SETTINGS_SAVE_COMPLETE (R168). The stored image copy's validity mark is set and SETTINGS-SAVED is raised to the requesting port. -/
  | settingsSaveComplete
  /-- READ_ACCOUNT (R35). Returns a string's account with its imbalance indication and taper threshold. -/
  | readAccount (q : Port) (f : Frame)
  /-- READ_MODULE (R78). Returns a slot's link record, its service record and the shelf fields. -/
  | readModule (q : Port) (f : Frame)
  /-- READ_SUPPLY (R120). Returns the supply record and the charge record. -/
  | readSupply (q : Port) (f : Frame)
  /-- READ_GENERATOR (R120). Returns the sequence record, the indications, GEN_MODE and the engine levels. -/
  | readGenerator (q : Port) (f : Frame)
  /-- READ_REQUESTS (R131). Returns the run request collection, the top serviceable request, the indications and the outage timer. -/
  | readRequests (q : Port) (f : Frame)
  /-- READ_SCHEDULE (R134). Returns the schedule entry at a position, with the number of entries. -/
  | readSchedule (q : Port) (f : Frame)
  /-- READ_FUEL (R138). Returns the fuel account, its indications and its reconcile state. -/
  | readFuel (q : Port) (f : Frame)
  /-- READ_DETECTOR (R148). Returns a detector entry and the relay states, then clears the port's unseen flag for that detector. -/
  | readDetector (q : Port) (f : Frame)
  /-- READ_MEASUREMENT (R13). Returns a channel's measurement record or an input's record. -/
  | readMeasurement (q : Port) (f : Frame)
  /-- READ_SETTING (R167). Returns a setting's working value, range, default and load source. -/
  | readSetting (q : Port) (f : Frame)
  /-- READ_CLOCK (R170). Returns the day, the minute and the set flag. -/
  | readClock (q : Port) (f : Frame)
  /-- READ_PENDING (R164). Returns the pending set, the unseen count, the site hold and the details, then empties the pending set and clears
  attention. -/
  | readPending (q : Port) (f : Frame)
  /-- READ_SNAPSHOT (R165). Returns the port's snapshot slot, or is refused with STATE when the slot is absent. -/
  | readSnapshot (q : Port) (f : Frame)
  /-- READ_SHED (R153). Returns the four stage records, their settings and the reconnect spacing. -/
  | readShed (q : Port) (f : Frame)
  /-- SET_SETTING (R167). Writes a setting to the working table, clamped to its range or against its dependent setting. -/
  | setSetting (q : Port) (f : Frame)
  /-- SAVE_SETTINGS (R168). Copies the working table and the schedule and begins a stored image write, or is answered BUSY during a save. -/
  | saveSettings (q : Port) (f : Frame)
  /-- SET_CLOCK (R170). Sets the day and minute and the set flag, and the RQU re-forms its indications. -/
  | setClock (q : Port) (f : Frame)
  /-- SET_CHARGE_MODE (R51). Starts or restarts a BOOST of the given hours, or returns to FLOAT with entry disarmed; refused in RESTRICTED. -/
  | setChargeMode (q : Port) (f : Frame)
  /-- REQUEST_RUN (R127). Creates or updates the port's PORT-RUN record with the given minimum minutes. -/
  | requestRun (q : Port) (f : Frame)
  /-- CANCEL_RUN (R127). Removes the port's own PORT-RUN record. -/
  | cancelRun (q : Port) (f : Frame)
  /-- RELEASE_GENERATOR (R118). Takes a LOCKED-OUT sequence to OFF when the fault, the lock-out action and the engine running level are all clear.
  -/
  | releaseGenerator (q : Port) (f : Frame)
  /-- HOLD_MODULE (R93). Puts a module in HELD with the requesting port as hold origin. -/
  | holdModule (q : Port) (f : Frame)
  /-- RETURN_MODULE (R94). Returns a HELD module to STANDBY, subject to the hold origin and the site key. -/
  | returnModule (q : Port) (f : Frame)
  /-- RELEASE_MODULE (R94). Returns a RETIRED module with no standing fault to STANDBY and hands the release to the DU. -/
  | releaseModule (q : Port) (f : Frame)
  /-- ROTATE_NOW (R95). Causes a rotation event on MAINS, or answers BUSY during a swap. -/
  | rotateNow (q : Port) (f : Frame)
  /-- RELEASE_DETECTOR (R147). Takes a LATCHED detector whose condition is absent to CLEAR and ends its action. -/
  | releaseDetector (q : Port) (f : Frame)
  /-- PROVE_DETECTOR (R150). Starts a proof of a CLEAR detector. -/
  | proveDetector (q : Port) (f : Frame)
  /-- SHED_STAGE (R156). Opens stages S1 up to k as OPEN-MANUAL. -/
  | shedStage (q : Port) (f : Frame)
  /-- RESTORE_STAGE (R156). Closes the highest open stage if it is manual, or automatic with its reconnect condition holding. -/
  | restoreStage (q : Port) (f : Frame)
  /-- ADD_SCHEDULE_ENTRY (R132). Adds a clamped schedule entry in due order, refusing a duplicate or a full schedule. -/
  | addScheduleEntry (q : Port) (f : Frame)
  /-- REMOVE_SCHEDULE_ENTRY (R134). Removes the entry of a given kind and due time. -/
  | removeScheduleEntry (q : Port) (f : Frame)
  /-- RESET_FUEL (R138). Sets F to the given value with residue 0 and re-forms the fuel indications. -/
  | resetFuel (q : Port) (f : Frame)
  /-- TAKE_SNAPSHOT (R165). Sets snapshot asked so that a capture follows at the next account update. -/
  | takeSnapshot (q : Port) (f : Frame)
  /-- SET_MASK (R164). Replaces the port's mask set and updates its attention line. -/
  | setMask (q : Port) (f : Frame)
  /-- TAKE_SITE_HOLD (R162). Makes the site hold active from C while the site key is active. -/
  | takeSiteHold (q : Port) (f : Frame)
  /-- GIVE_SITE_HOLD (R162). Makes the site hold inactive from C. -/
  | giveSiteHold (q : Port) (f : Frame)
  /-- WARM_RESTART (R172). After its response is formed, the blocks restart in stages: CC, SHC, PC, RQU and RC, then SC adoption, RC GEN_CAP test,
  DU and SBC hand-ons. -/
  | warmRestart (q : Port) (f : Frame)
  /-- UNCATALOGUED_REQUEST_FRAME (R159). A request frame that is too short, longer than 17 bytes, fails its check or carries a request code
  outside the catalogue is taken at a port and answered REFUSED CHECK or REFUSED UNKNOWN without being kept as the last frame. -/
  | uncataloguedRequestFrame (q : Port) (bytes : List Byte)
  deriving DecidableEq, Repr

end Sys2Proof
end

