-- ==== Sys2Proof/Decode.lean ====
section
/-! DEFINITION. The command a word spells by the bits of spec/opcode_table.json. -/

namespace Sys2Proof

/-- The command a word of some bits spells: none, since no row of the table gives bits (98_reader.md: "n_rows_with_fixed": 0). Request frames
are decoded from their bytes where a port takes them (Machine/Ports.lean). -/
def decodeTableWord (_nbits _w : Nat) : Option Instr := none

end Sys2Proof
end

