-- ==== Sys2Proof/Config.lean ====
section
/-! DEFINITION. What the part fixes (constants of the rules) and the free values: what the spec leaves open, as constants without a body. -/

namespace Sys2Proof.Config

/-- FREE VALUE (DESIGN CHOICE, notes/assumptions/7.md). R37 lets either copy be written when neither is valid; the nth such choice takes
the first copy exactly when this says so. -/
opaque eitherCopyIsFirst : Nat → Bool

/-- FREE VALUE (DESIGN CHOICE, notes/assumptions/8.md). R160 clamps to the nearest choice and names none of two equally near choices; this
says whether the upper of the two, given as lower and upper, is taken. -/
opaque tieGoesUp : Int → Int → Bool

/-- FREE VALUE (DESIGN CHOICE, notes/assumptions/5.md). R131 returns the outage timer's minutes remaining and names no rounding; this says
whether a part of a minute counts as one, given the seconds remaining. -/
opaque outageRoundsUp : Nat → Bool

/-- FREE VALUE (DESIGN CHOICE, notes/assumptions/9.md). R177 gives no code to the present output state UNKNOWN of R73. -/
opaque unknownOutputCode : Byte

/-- Hold time of an analog channel, in measurement periods (R9). -/
def holdTime (ch : Fin 12) : Nat :=
  match ch.val with
  | 4 | 5 | 6 => 900
  | 7 | 8 | 9 | 10 => 0
  | 11 => 3600
  | _ => 10

/-- How many values the window of a channel holds; none for a channel read as period values (R1, R5). -/
def windowSize (ch : Fin 12) : Option Nat :=
  match ch.val with
  | 4 | 5 | 6 => some 16
  | 11 => some 60
  | _ => none

/-- Account updates between hourly checkpoints (R36). -/
def checkpointPeriod : Nat := 3600

/-- Charge evaluations of the taper exit (R49). -/
def taperExitSeconds : Nat := 900

/-- Evaluations a qualify wait may last (R112). -/
def qualifyWaitLimit : Nat := 300

/-- Seconds in STOPPING before a failure to stop (R115). -/
def stopWatchSeconds : Nat := 30

/-- Seconds of the stop pulse given at power-on (R121). -/
def stopPulseSeconds : Nat := 30

/-- Seconds in STOPPING at which a module's stop is checked (R89). -/
def stopCheckSeconds : Nat := 10

/-- Supply evaluations of the start-up period after the discovery round (R104). -/
def startUpEvaluations : Nat := 10

end Sys2Proof.Config
end

