-- ==== Sys2Proof/Machine/Settings.lean ====
section
/-! DEFINITION. The settings: their numbers (R174), static ranges and defaults (section 10.4, R143, R153), and the working table. -/

namespace Sys2Proof.Machine

/-- The plain settings, in the order of their numbers 0..70 (R174). -/
inductive Setting where
  | capA | capB | strings | eta1 | eta2 | eta3 | capf0 | capf1 | capf2 | capf3 | capf4 | capf5 | taperPm | anchorMin | driftLimit
  | imbalPm | boostEntryPm | boostMax | vfCell | vbCell | slope | cells | vbusMin | vbusMax | limitPm | slotFitted
  | modRating | loadTargetPm | spare | minRunModules | genCap | walkinS | removeHoldMin | startWindowS | recoverWait | rotateH | rotateMarginH
  | mainsVLo | mainsVHi | fLo | fHi | mainsFailS | mainsReturnMin | breakMs | genMode | prestartS | crankS | restS | attempts | warmupS
  | genQualS | minrunMin | cooldownS
  | outageDelayMin | lowPm | critPm | runtimeLow | recoverPm | windowStart | windowEnd | exerciseOnLoad | tankL | reserveL | burnIdle | burnFull
  | reconcileL | refuelStepPct | busLowMv | tempHigh
  | shedDelay | recDelay
  deriving DecidableEq, Repr

/-- The setting's number (R174): its place in the list above. -/
def Setting.idx (k : Setting) : Fin 71 := ⟨k.ctorIdx, by cases k <;> decide⟩

/-- All plain settings in the order of their numbers. -/
def Setting.all : List Setting :=
  [.capA, .capB, .strings, .eta1, .eta2, .eta3, .capf0, .capf1, .capf2, .capf3, .capf4, .capf5, .taperPm, .anchorMin, .driftLimit] ++
  [.imbalPm, .boostEntryPm, .boostMax, .vfCell, .vbCell, .slope, .cells, .vbusMin, .vbusMax, .limitPm, .slotFitted] ++
  [.modRating, .loadTargetPm, .spare, .minRunModules, .genCap, .walkinS, .removeHoldMin, .startWindowS, .recoverWait, .rotateH,
   .rotateMarginH] ++
  [.mainsVLo, .mainsVHi, .fLo, .fHi, .mainsFailS, .mainsReturnMin, .breakMs, .genMode, .prestartS, .crankS, .restS, .attempts, .warmupS,
   .genQualS, .minrunMin, .cooldownS] ++
  [.outageDelayMin, .lowPm, .critPm, .runtimeLow, .recoverPm, .windowStart, .windowEnd, .exerciseOnLoad, .tankL, .reserveL, .burnIdle,
   .burnFull, .reconcileL, .refuelStepPct, .busLowMv, .tempHigh] ++
  [.shedDelay, .recDelay]

/-- A row of the reference table of settings (section 10.4): the ends of the range that no other setting moves, and the default. -/
structure SettingRow where
  lo : Nat
  hi : Nat
  dflt : Nat
  deriving DecidableEq, Repr

/-- The reference table of section 10.4 (R174 for SLOT_FITTED and the codes of GEN_MODE and EXERCISE_ON_LOAD). -/
def Setting.row : Setting → SettingRow
  | .capA | .capB => ⟨50, 3000, 200⟩
  | .strings => ⟨1, 2, 2⟩
  | .eta1 => ⟨128, 256, 250⟩
  | .eta2 => ⟨128, 256, 235⟩
  | .eta3 => ⟨128, 256, 210⟩
  | .capf0 => ⟨64, 256, 154⟩
  | .capf1 => ⟨64, 256, 179⟩
  | .capf2 => ⟨64, 256, 205⟩
  | .capf3 => ⟨64, 256, 230⟩
  | .capf4 => ⟨64, 256, 243⟩
  | .capf5 => ⟨64, 256, 256⟩
  | .taperPm => ⟨5, 50, 10⟩
  | .anchorMin => ⟨15, 240, 60⟩
  | .driftLimit => ⟨240, 2160, 720⟩
  | .imbalPm => ⟨20, 300, 100⟩
  | .boostEntryPm => ⟨500, 950, 850⟩
  | .boostMax => ⟨1, 24, 8⟩
  | .vfCell => ⟨2150, 2350, 2250⟩
  | .vbCell => ⟨2250, 2450, 2350⟩
  | .slope => ⟨0, 6000, 3000⟩
  | .cells => ⟨20, 26, 24⟩
  | .vbusMin => ⟨44000, 54000, 51000⟩
  | .vbusMax => ⟨52000, 60000, 57600⟩
  | .limitPm => ⟨50, 250, 100⟩
  | .slotFitted => ⟨0, 4095, 4095⟩
  | .modRating => ⟨100, 1000, 500⟩
  | .loadTargetPm => ⟨500, 1000, 800⟩
  | .spare => ⟨0, 2, 1⟩
  | .minRunModules => ⟨1, 12, 2⟩
  | .genCap => ⟨1, 12, 4⟩
  | .walkinS => ⟨2, 30, 5⟩
  | .removeHoldMin => ⟨1, 60, 10⟩
  | .startWindowS => ⟨5, 60, 15⟩
  | .recoverWait => ⟨1, 60, 5⟩
  | .rotateH => ⟨24, 720, 168⟩
  | .rotateMarginH => ⟨1, 240, 24⟩
  | .mainsVLo => ⟨150, 220, 180⟩
  | .mainsVHi => ⟨240, 290, 264⟩
  | .fLo => ⟨400, 600, 470⟩
  | .fHi => ⟨450, 700, 530⟩
  | .mainsFailS => ⟨1, 30, 2⟩
  | .mainsReturnMin => ⟨1, 30, 5⟩
  | .breakMs => ⟨500, 5000, 1000⟩
  | .genMode => ⟨0, 2, 0⟩
  | .prestartS => ⟨0, 30, 5⟩
  | .crankS => ⟨3, 30, 10⟩
  | .restS => ⟨5, 60, 15⟩
  | .attempts => ⟨1, 6, 3⟩
  | .warmupS => ⟨0, 600, 120⟩
  | .genQualS => ⟨5, 60, 10⟩
  | .minrunMin => ⟨5, 240, 30⟩
  | .cooldownS => ⟨0, 900, 180⟩
  | .outageDelayMin => ⟨0, 480, 30⟩
  | .lowPm => ⟨200, 800, 500⟩
  | .critPm => ⟨100, 750, 300⟩
  | .runtimeLow => ⟨15, 600, 60⟩
  | .recoverPm => ⟨700, 1000, 900⟩
  | .windowStart => ⟨0, 1439, 480⟩
  | .windowEnd => ⟨0, 1439, 1080⟩
  | .exerciseOnLoad => ⟨0, 1, 0⟩
  | .tankL => ⟨50, 10000, 400⟩
  | .reserveL => ⟨0, 1000, 40⟩
  | .burnIdle => ⟨0, 1000, 15⟩
  | .burnFull => ⟨0, 2000, 40⟩
  | .reconcileL => ⟨1, 500, 20⟩
  | .refuelStepPct => ⟨1, 50, 5⟩
  | .busLowMv => ⟨40000, 50000, 47500⟩
  | .tempHigh => ⟨300, 550, 400⟩
  | .shedDelay => ⟨10, 300, 30⟩
  | .recDelay => ⟨30, 900, 60⟩

/-- Class of a detector (R142), in the order of its codes (R174). -/
inductive DetClass where
  | note | alarm | recover | latch | protect
  deriving DecidableEq, Repr

/-- Severity of a detector (R142, R174). -/
inductive Severity where
  | minor | major
  deriving DecidableEq, Repr

/-- Which contact level of an alarm input is the alarm (R142, R174). -/
inductive Polarity where
  | whenClosed | whenOpen
  deriving DecidableEq, Repr

/-- The settings of one detector (R142); the polarity is meaningful for ids 24..31 only. -/
structure DetCfg where
  cls : DetClass
  sev : Severity
  qualify : Nat
  hold : Nat
  polarity : Polarity
  deriving DecidableEq, Repr

/-- The settings of one shed stage (R153). -/
structure StageCfg where
  discV : Nat
  recV : Nat
  discSoc : Nat
  recSoc : Nat
  deriving DecidableEq, Repr

/-- The working settings table (R167): plain settings by number, shed stages S1..S4, detectors 0..31. -/
structure Settings where
  plain : Vector Nat 71
  stages : Vector StageCfg 4
  dets : Vector DetCfg 32
  deriving DecidableEq, Repr

/-- The value of a plain setting. -/
def Settings.val (t : Settings) (k : Setting) : Nat := t.plain[k.idx]

/-- The table with one plain setting replaced. -/
def Settings.put (t : Settings) (k : Setting) (v : Nat) : Settings := { t with plain := t.plain.set k.idx v }

/-- Default class, severity, qualify and hold of a detector (R143). -/
def detDefault (d : Fin 32) : DetCfg :=
  let mk (c : DetClass) (v : Severity) (q h : Nat) : DetCfg := ⟨c, v, q, h, .whenClosed⟩
  match d.val with
  | 0 => mk .alarm .minor 1 10
  | 1 | 2 => mk .alarm .major 5 10
  | 3 => mk .protect .major 1 0
  | 4 | 5 => mk .recover .minor 30 60
  | 6 => mk .protect .major 5 60
  | 7 => mk .note .minor 5 60
  | 8 => mk .alarm .minor 1 10
  | 9 => mk .alarm .minor 5 60
  | 10 => mk .alarm .major 5 60
  | 11 => mk .note .minor 120 300
  | 12 => mk .note .minor 1 0
  | 13 => mk .recover .minor 1 10
  | 14 | 15 => mk .alarm .minor 1 10
  | 16 => mk .alarm .major 30 60
  | 17 | 18 => mk .alarm .major 1 0
  | 19 => mk .protect .major 1 10
  | 20 => mk .latch .major 5 0
  | 21 => mk .alarm .minor 30 300
  | 22 => mk .alarm .major 5 60
  | 23 => mk .alarm .major 1 10
  | _ => mk .alarm .minor 5 10

/-- Default settings of a shed stage (R153). -/
def stageDefault (k : Fin 4) : StageCfg :=
  match k.val with
  | 0 => ⟨47000, 50000, 400, 450⟩
  | 1 => ⟨46000, 50000, 300, 400⟩
  | 2 => ⟨45000, 50500, 200, 300⟩
  | _ => ⟨43200, 51000, 100, 250⟩

/-- Every setting at its default (R169). -/
def Settings.defaults : Settings where
  plain := ⟨⟨Setting.all.map fun k => k.row.dflt⟩, rfl⟩
  stages := vgen stageDefault
  dets := vgen detDefault

/-- The PROTECT detectors, whose class, severity, qualify and hold cannot be written (R142). -/
def isProtect (d : Fin 32) : Bool := d.val == 3 || d.val == 6 || d.val == 19

/-- The range of a plain setting as it then stands: where another setting limits it, against that setting's value (R56, R101, R126, R135,
R136, section 10.4 "kept against"). -/
def Settings.range (t : Settings) (k : Setting) : Nat × Nat :=
  let r := k.row
  match k with
  | .vfCell => (r.lo, min r.hi (t.val .vbCell))
  | .vbCell => (max r.lo (t.val .vfCell), r.hi)
  | .vbusMin => (r.lo, min r.hi (t.val .vbusMax - 1000))
  | .vbusMax => (max r.lo (t.val .vbusMin + 1000), r.hi)
  | .fLo => (r.lo, min r.hi (t.val .fHi - 10))
  | .fHi => (max r.lo (t.val .fLo + 10), r.hi)
  | .lowPm => (max r.lo (t.val .critPm + 50), r.hi)
  | .critPm => (r.lo, min r.hi (t.val .lowPm - 50))
  | .tankL => (max r.lo (t.val .reserveL), r.hi)
  | .reserveL => (r.lo, min r.hi (t.val .tankL))
  | .burnIdle => (r.lo, min r.hi (t.val .burnFull))
  | .burnFull => (max r.lo (t.val .burnIdle), r.hi)
  | _ => (r.lo, r.hi)

/-- A number brought to the nearer end of a range (R160). -/
def clampTo (lo hi : Nat) (v : Int) : Nat := max lo (min hi v.toNat)

end Sys2Proof.Machine
end

