-- ==== Sys2Proof/Machine/State.lean ====
section
/-! DEFINITION. The state: the plant record of 00_scope.md, one structure for each unit that owns a part of it, and the machine after reset. -/

namespace Sys2Proof.Machine

/-! ### Measurement Unit (R5, R11) -/

/-- Condition of an analog record (R5). -/
inductive Cond where
  | empty | valid | held | lapsed
  deriving DecidableEq, Repr

/-- Measurement record of an analog channel (R5). -/
structure AnalogRec where
  cond : Cond
  value : Option Int
  heldAge : Nat
  window : List Int
  deriving DecidableEq, Repr

/-- Input record (R11). Levels and readings: `true` is the first level R1 names (closed, active, present); a level of `none` is UNKNOWN. -/
structure InputRec where
  level : Option Bool
  recent : List Bool
  changed : Bool
  deriving DecidableEq, Repr

structure Mu where
  analog : Vector AnalogRec 12
  inputs : Vector InputRec 13
  deriving DecidableEq, Repr

/-! ### Account Unit and checkpoint area (R16, R36, R37) -/

/-- Confidence of an account (R16, R30). -/
inductive Conf where
  | anchored | unsure | stale
  deriving DecidableEq, Repr

/-- Account record of a string (R16). -/
structure Account where
  q : Nat
  residue : Nat
  cfull : Nat
  band : Nat
  assumed : Bool
  soc : Nat
  runtime : Nat
  conf : Conf
  hours : Nat
  anchorSec : Nat
  taperMin : Nat
  taperSec : Nat
  lost : Nat
  restored : Option Conf
  deriving DecidableEq, Repr

/-- Imbalance indication (R33), in the order of its codes (R175). -/
inductive Imbalance where
  | notEvaluated | balanced | imbalanced
  deriving DecidableEq, Repr

structure Au where
  acctA : Account
  acctB : Option Account
  count : Nat
  imbalance : Imbalance
  deriving DecidableEq, Repr

/-- What a checkpoint holds of a string (R36). -/
structure CkptString where
  q : Nat
  residue : Nat
  conf : Conf
  hours : Nat
  deriving DecidableEq, Repr

/-- Content of a checkpoint (R36). -/
structure Ckpt where
  strA : CkptString
  strB : Option CkptString
  runMinutes : Vector Nat 12
  fuel : Nat
  fuelResidue : Nat
  deriving DecidableEq, Repr

/-- One of the two copies of the checkpoint area or of the stored image (R37, R168): the validity mark, whether its check agrees with its
content, its sequence number and its content (none in a blank store). -/
structure NvCopy (α : Type) where
  mark : Bool
  checkAgrees : Bool
  seq : Nat
  content : Option α
  deriving DecidableEq, Repr

/-- The two copies, the first and the second (R37, R168). -/
structure NvArea (α : Type) where
  first : NvCopy α
  second : NvCopy α
  deriving DecidableEq, Repr

/-- Names one of the two copies. -/
inductive CopyId where
  | first | second
  deriving DecidableEq, Repr

/-! ### Charge Controller (R42) -/

inductive ChargeMode where
  | float | boost | refresh | restricted
  deriving DecidableEq, Repr

/-- The restriction set (R42), a flag for each possible member. -/
structure Restriction where
  thermal : Bool
  tempA : Bool
  tempB : Bool
  deriving DecidableEq, Repr

/-- The charge record (R42). -/
structure Cc where
  mode : ChargeMode
  boostRemaining : Option Nat
  taperExit : Nat
  armed : Bool
  refreshDone : Bool
  restriction : Restriction
  tc : Nat
  setpoint : Nat
  limitA : Nat
  limitB : Option Nat
  total : Nat
  deriving DecidableEq, Repr

/-! ### Shelf Bus Controller (R62) -/

/-- Command of a poll (R64), in the order of its codes (R176). -/
inductive ModCmd where
  | shut | standby | run
  deriving DecidableEq, Repr

/-- Output state of a reply (R66), in the order of its codes (R176). -/
inductive OutState where
  | off | on | limit | fault
  deriving DecidableEq, Repr

/-- Content of a reply (R62, R66). -/
structure Reply where
  out : OutState
  current : Nat
  temp : Int
  code : Nat
  deriving DecidableEq, Repr

/-- Content of a poll (R62, R64). -/
structure Poll where
  cmd : ModCmd
  setpoint : Nat
  limit : Nat
  deriving DecidableEq, Repr

/-- Causes of a bad reply (R67). -/
inductive BadCause where
  | noReply | check | wrongSlot | malformed
  deriving DecidableEq, Repr

/-- Link record of a slot (R62); the link condition follows from it. -/
structure Link where
  silence : Nat
  answered : Bool
  lastGood : Option Reply
  lastPoll : Option Poll
  badTally : Nat
  missTally : Nat
  lastBad : Option BadCause
  deriving DecidableEq, Repr

/-- The exchange in flight (R62): slot, attempt, the frame formed for it, and whether the reply window of the attempt is open (R63). -/
structure Exchange where
  slot : Slot
  attempt : Nat
  frame : Poll
  windowOpen : Bool
  /-- The causes of the bad replies this exchange has drawn (R67), the latest first; the link record takes them at its end (R62, R78). -/
  bads : List BadCause
  deriving DecidableEq, Repr

structure Sbc where
  fitted : SlotSet
  links : Vector Link 12
  cursor : Slot
  exch : Option Exchange
  /-- The bytes of the latest poll frame sent (R176): the model's own record of what stands on the bus. -/
  lastFrame : Option (List Byte)
  deriving DecidableEq, Repr

/-! ### Rotation Controller (R79, R80) -/

/-- Service states, in the order of the table of R79. -/
inductive Service where
  | absent | standby | starting | running | stopping | resting | retired | held | lost
  deriving DecidableEq, Repr

/-- The detector whose action retired a module (R80). -/
inductive RetireCause where
  | moduleFault | moduleMismatch
  deriving DecidableEq, Repr

/-- Service record of a slot (R80), with the dropout watch and the stop check still to be made (R89). -/
structure Module where
  service : Service
  runMinutes : Nat
  startCount : Nat
  skip : Bool
  timeIn : Nat
  holdOrigin : Option Port
  retireCause : Option RetireCause
  fault : Option Nat
  setpoint : Nat
  limit : Nat
  dropout : Option Nat
  stopCheck : Bool
  deriving DecidableEq, Repr

/-- The RC's records and shelf fields (R80). -/
structure Rc where
  mods : Vector Module 12
  nNeed : Nat
  rawNeed : Nat
  capShort : Bool
  queue : List Slot
  walkTimer : Option Nat
  removal : Option Nat
  rotation : Nat
  swap : Option (Slot × Slot)
  shut : Bool
  deriving DecidableEq, Repr

/-! ### Supply Controller (R99, R108) -/

/-- What feeds the rectifiers (R99), in the order of its codes (R175). -/
inductive Source where
  | none | mains | generator
  deriving DecidableEq, Repr

inductive MainsState where
  | down | returning | up | failing
  deriving DecidableEq, Repr

/-- The two contactors, mains and generator. -/
inductive Contactor where
  | mc | gc
  deriving DecidableEq, Repr

inductive Direction where
  | toMains | toGenerator
  deriving DecidableEq, Repr

inductive Phase where
  | brk | mk
  deriving DecidableEq, Repr

/-- What the SC keeps for one contactor (R99): whether it is commanded CLOSED, the command's age in seconds, the time in milliseconds since its
auxiliary level became open, and its mismatch. -/
structure ContactorRec where
  closed : Bool
  age : Nat
  openMs : Option Nat
  mismatch : Bool
  deriving DecidableEq, Repr

/-- States of the generator sequence, in the order of the table of R108. -/
inductive SeqState where
  | off | preStart | cranking | crankRest | warmUp | onLoad | coolDown | stopping | lockedOut
  deriving DecidableEq, Repr

/-- The indications of R130. -/
structure Indications where
  start : Bool
  mainsFail : Bool
  others : Bool
  idle : Bool
  deriving DecidableEq, Repr

/-- The sequence record (R108). -/
structure Seq where
  state : SeqState
  seconds : Nat
  attempts : Nat
  limit : Nat
  warmDone : Bool
  offLoad : Bool
  qualWait : Nat
  runSec : Option Nat
  minElapsed : Bool
  holdOff : Nat
  stopPulse : Nat
  failStart : Bool
  failStop : Bool
  glow : Bool
  crank : Bool
  stop : Bool
  deriving DecidableEq, Repr

/-- The supply record (R99), the sequence record (R108), the evaluations counted since the discovery round (R104), the indications as the
latest supply evaluation read them (R120), and the milliseconds since that evaluation as far as a command has told them (notes/assumptions/6.md). -/
structure Sc where
  source : Source
  mains : MainsState
  mainsCount : Nat
  startUp : Bool
  startCount : Nat
  mainsLost : Bool
  mc : ContactorRec
  gc : ContactorRec
  transfer : Option (Direction × Phase)
  inhibit : Bool
  lockOut : Bool
  genGood : Nat
  seq : Seq
  ind : Indications
  sinceEval : Nat
  deriving DecidableEq, Repr

/-! ### Request Unit (R123, R132, R135) -/

/-- Plant time (R170): day and minute of day. -/
structure PlantTime where
  day : Nat
  minute : Nat
  deriving DecidableEq, Repr

inductive Reason where
  | mainsFail | batteryLow | exercise | portRun
  deriving DecidableEq, Repr

inductive ReqClass where
  | critical | normal | deferrable
  deriving DecidableEq, Repr

/-- Run request record (R123) with its serviceable mark (R124, step 3). -/
structure RunReq where
  reason : Reason
  origin : Origin
  cls : ReqClass
  onLoad : Bool
  minMinutes : Option Nat
  served : Nat
  created : Option PlantTime
  isServed : Bool
  serviceable : Bool
  deriving DecidableEq, Repr

inductive SchedKind where
  | exercise | boostCharge | rotate
  deriving DecidableEq, Repr

/-- Schedule entry (R132). -/
structure SchedEntry where
  kind : SchedKind
  due : PlantTime
  interval : Nat
  duration : Option Nat
  origin : Port
  notify : Bool
  deriving DecidableEq, Repr

structure Rqu where
  reqs : List RunReq
  ind : Indications
  /-- Seconds left on the outage timer (R125), while it runs. -/
  outage : Option Nat
  schedule : List SchedEntry
  fuel : Nat
  residue : Nat
  reserve : Bool
  exhausted : Bool
  burnRate : Nat
  reconcileCount : Nat
  reconcileDue : Bool
  lastReading : Option Nat
  deriving DecidableEq, Repr

/-! ### Detector Unit (R142) -/

inductive DetState where
  | clear | qualifying | active | holding | latched | proved
  deriving DecidableEq, Repr

/-- One value for each port, in the order P, T, C. -/
structure PerPort (α : Type) where
  exchange : α
  telemetry : α
  craft : α
  deriving DecidableEq, Repr

/-- Detector entry (R142), but for its settings; the slot marks are used by ids 13, 14 and 15. -/
structure Det where
  state : DetState
  count : Nat
  seen : Bool
  first : Option PlantTime
  unseen : PerPort Bool
  marks : SlotSet
  deriving DecidableEq, Repr

/-- Proof record (R150). -/
structure Proof where
  id : Fin 32
  port : Port
  qualify : Nat
  deriving DecidableEq, Repr

structure Du where
  dets : Vector Det 32
  alarmCond : Vector Bool 8
  engineFault : Bool
  /-- Alarm inputs whose polarity was written since the latest evaluation (R144, step 1). -/
  polarityWritten : Vector Bool 8
  proof : Option Proof
  /-- Whether a detector evaluation has been made since the latest power-on or cold restart (R149). -/
  evaluated : Bool
  majorAlarm : Bool
  minorAlarm : Bool
  deriving DecidableEq, Repr

/-! ### Shed Controller (R153) -/

inductive StageState where
  | closed | openAuto | openManual
  deriving DecidableEq, Repr

/-- Shed stage record (R153). -/
structure Stage where
  state : StageState
  discCount : Nat
  waiting : Bool
  follow : Option Nat
  recCount : Nat
  deriving DecidableEq, Repr

structure Shc where
  stages : Vector Stage 4
  spacing : Nat
  deriving DecidableEq, Repr

/-! ### Port Controller (R158) -/

/-- Notice kinds (R163), in the order of their bits (R175). -/
inductive Notice where
  | detectorChange | supplyChange | generatorState | moduleChange | chargeMode | shedChange | refuel | restart | scheduleDone
  | snapshotReady | proofResult | requestDone | settingsSaved
  deriving DecidableEq, Repr

/-- A set of notice kinds, a bit for each (R175). -/
abbrev NoticeSet := BitVec 13

/-- Reasons of a refusal at a port, in the order of their status bytes (R173). -/
inductive Reject where
  | unknown | range | state | held | full | duplicate | check
  deriving DecidableEq, Repr

/-- Status of a response (R158). -/
inductive Status where
  | done | clamped | busy | rejected (why : Reject)
  deriving DecidableEq, Repr

/-- A response (R158, R173): the tag, the status and the data. -/
structure Response where
  tag : Byte
  status : Status
  data : List Byte
  deriving DecidableEq, Repr

/-- Content of a snapshot (R165). -/
structure Snapshot where
  day : Nat
  minute : Nat
  clockSet : Bool
  acctA : Account
  acctB : Option Account
  source : Source
  seq : SeqState
  services : List Nat
  fuel : Nat
  residue : Nat
  stages : List StageState
  deriving DecidableEq, Repr

/-- Port record (R158). -/
structure PortRec where
  pendingSet : NoticeSet
  mask : NoticeSet
  attention : Bool
  lastFrame : Option (List Byte)
  lastResponse : Option Response
  /-- The detector and whether its proof was INTERRUPTED (R163). -/
  proofResult : Option (Fin 32 × Bool)
  schedDone : Option (SchedKind × PlantTime)
  slot : Option Snapshot
  asked : Bool
  /-- The response most recently given to the master: the model's own record of an output. -/
  sent : Option Response
  deriving DecidableEq, Repr

structure Pc where
  ports : PerPort PortRec
  siteHold : Bool
  deriving DecidableEq, Repr

/-! ### Settings Store, Clock and start-up (R167, R168, R170, R171) -/

/-- Content of the stored image (R168). -/
structure Image where
  table : Settings
  schedule : List SchedEntry
  deriving DecidableEq, Repr

inductive LoadSource where
  | image | defaults
  deriving DecidableEq, Repr

/-- A save in progress (R168): the copy being written and the requesting port. -/
structure Save where
  copy : CopyId
  port : Port
  deriving DecidableEq, Repr

structure Ss where
  table : Settings
  loadSource : LoadSource
  image : NvArea Image
  save : Option Save
  ckpt : NvArea Ckpt
  ckptWrite : Option CopyId
  ckptWaiting : Option Ckpt
  deriving DecidableEq, Repr

structure Clk where
  day : Nat
  minute : Nat
  isSet : Bool
  deriving DecidableEq, Repr

/-- How far start-up has come (R171): the step in progress; `running` once step 4 has ended. -/
inductive StartStep where
  | load | restore | safeOutputs | discovery | running
  deriving DecidableEq, Repr

/-! ### The machine -/

/-- Reasons for which the part could stop. The spec stops it nowhere, so no meaning raises one. -/
inductive Fault where
  /-- Raised by no command of this model (safe): the spec gives every command an effect. -/
  | noneRaised
  deriving DecidableEq, Repr

/-- Reasons for which a command could be refused by the model. -/
inductive Refusal where
  /-- Raised by an arm of exec for a command that has no meaning yet (safe); no arm raises it now. -/
  | notModelled (mnemonic : String)
  deriving DecidableEq, Repr

/-- The plant record and the rest of the part's state, by owning unit, and the queue of waiting commands. -/
structure State where
  mu : Mu
  au : Au
  cc : Cc
  sbc : Sbc
  rc : Rc
  sc : Sc
  rqu : Rqu
  du : Du
  shc : Shc
  pc : Pc
  ss : Ss
  clk : Clk
  startStep : StartStep
  /-- How many values have been taken from the free value Config.eitherCopyIsFirst (notes/assumptions/7.md). -/
  freeDraws : Nat
  pending : List Instr
  deriving DecidableEq, Repr

/-! ### Initial records (R14, R41, R59, R76, R97, R121, R140, R152, R157, R166) -/

/-- A measurement record at power-on (R14). -/
def AnalogRec.initial : AnalogRec := ⟨.empty, none, 0, []⟩

/-- An input record at power-on (R14). -/
def InputRec.initial : InputRec := ⟨none, [], false⟩

/-- The MU at power-on (R14). -/
def Mu.initial : Mu := ⟨Vector.replicate 12 AnalogRec.initial, Vector.replicate 13 InputRec.initial⟩

/-- A copy of a blank non-volatile store (notes/assumptions/4.md). -/
def NvCopy.blank {α : Type} : NvCopy α := ⟨false, false, 0, none⟩

/-- A blank non-volatile area (notes/assumptions/4.md). -/
def NvArea.blank {α : Type} : NvArea α := ⟨NvCopy.blank, NvCopy.blank⟩

/-- A link record at power-on (R76). -/
def Link.initial : Link := ⟨0, false, none, none, 0, 0, none⟩

/-- A service record at power-on (R97), given its run minutes and placed values. -/
def Module.initial (runMinutes setpoint limit : Nat) : Module :=
  ⟨.absent, runMinutes, 0, false, 0, none, none, none, setpoint, limit, none, false⟩

/-- A contactor at safe outputs (R121). -/
def ContactorRec.initial : ContactorRec := ⟨false, 0, none, false⟩

/-- No indication (R130 over an empty collection). -/
def Indications.nothing : Indications := ⟨false, false, false, false⟩

/-- The sequence at safe outputs (R121); the attempt limit stands at ATTEMPTS until PRE-START takes it. -/
def Seq.initial (attempts : Nat) : Seq :=
  ⟨.off, 0, 0, attempts, false, false, 0, none, false, 0, Config.stopPulseSeconds, false, false, false, false, true⟩

/-- The supply record at safe outputs (R121). -/
def Sc.initial (attempts : Nat) : Sc :=
  ⟨.none, .down, 0, true, 0, false, .initial, .initial, none, false, false, 0, .initial attempts, .nothing, 0⟩

/-- A detector at power-on (R152). -/
def Det.initial : Det := ⟨.clear, 0, false, none, ⟨false, false, false⟩, 0#12⟩

/-- The DU at power-on (R152): both relays in alarm. -/
def Du.initial : Du :=
  ⟨Vector.replicate 32 Det.initial, Vector.replicate 8 false, false, Vector.replicate 8 false, none, false, true, true⟩

/-- A shed stage at power-on (R157). -/
def Stage.initial : Stage := ⟨.closed, 0, false, none, 0⟩

/-- The SHC at power-on (R157). -/
def Shc.initial : Shc := ⟨Vector.replicate 4 Stage.initial, 0⟩

/-- The set that holds one notice kind (R175). -/
def Notice.bit (n : Notice) : NoticeSet := BitVec.ofNat 13 (2 ^ n.ctorIdx)

/-- A port record at power-on (R166). -/
def PortRec.initial : PortRec := ⟨Notice.bit .restart, 0#13, true, none, none, none, none, none, false, none⟩

/-- The PC at power-on (R162, R166). -/
def Pc.initial : Pc := ⟨⟨.initial, .initial, .initial⟩, false⟩

/-- An account set up without a checkpoint, of a given effective capacity (R41). -/
def Account.half (cfull : Nat) : Account :=
  ⟨cfull / 2, 0, cfull, 5, true, cfull / 2 * 1000 / cfull, 65535, .unsure, 0, 0, 0, 0, 0, none⟩

/-- The machine after reset: a power-on with a blank non-volatile store, its start-up at the discovery round (R171, notes/assumptions/4.md). -/
def State.reset : State where
  mu := .initial
  au := ⟨.half 7200000, some (.half 7200000), 0, .notEvaluated⟩
  cc := ⟨.float, none, 0, true, false, ⟨false, false, false⟩, 250, 54000, 200, some 200, 400⟩
  sbc := ⟨4095#12, Vector.replicate 12 Link.initial, 0, none, none⟩
  rc := ⟨Vector.replicate 12 (Module.initial 0 54000 50), 0, 2, false, [], none, none, 10080, none, false⟩
  sc := .initial 3
  rqu := ⟨[], .nothing, some 1800, [], 0, 0, true, true, 0, 0, true, none⟩
  du := .initial
  shc := .initial
  pc := .initial
  ss := ⟨.defaults, .defaults, .blank, none, .blank, none, none⟩
  clk := ⟨0, 0, false⟩
  startStep := .discovery
  freeDraws := 0
  pending := []

end Sys2Proof.Machine
end

