-- ==== Sys2Proof/Machine/Ops.lean ====
section
/-! DEFINITION. Named updates and reads of the state that every unit uses: records of the MU, settings, module records, notices. -/

namespace Sys2Proof.Machine

/-! ### Updates of one unit's part -/

/-- The state with its `mu` replaced. -/
def State.withMu (s : State) (x : Mu) : State := { s with mu := x }

/-- The state with its `au` replaced. -/
def State.withAu (s : State) (x : Au) : State := { s with au := x }

/-- The state with its `cc` replaced. -/
def State.withCc (s : State) (x : Cc) : State := { s with cc := x }

/-- The state with its `sbc` replaced. -/
def State.withSbc (s : State) (x : Sbc) : State := { s with sbc := x }

/-- The state with its `rc` replaced. -/
def State.withRc (s : State) (x : Rc) : State := { s with rc := x }

/-- The state with its `sc` replaced. -/
def State.withSc (s : State) (x : Sc) : State := { s with sc := x }

/-- The state with its `rqu` replaced. -/
def State.withRqu (s : State) (x : Rqu) : State := { s with rqu := x }

/-- The state with its `du` replaced. -/
def State.withDu (s : State) (x : Du) : State := { s with du := x }

/-- The state with its `shc` replaced. -/
def State.withShc (s : State) (x : Shc) : State := { s with shc := x }

/-- The state with its `pc` replaced. -/
def State.withPc (s : State) (x : Pc) : State := { s with pc := x }

/-- The state with its `ss` replaced. -/
def State.withSs (s : State) (x : Ss) : State := { s with ss := x }

/-- The state with its `clk` replaced. -/
def State.withClk (s : State) (x : Clk) : State := { s with clk := x }

/-- The state with its `startStep` replaced. -/
def State.withStartStep (s : State) (x : StartStep) : State := { s with startStep := x }

/-- The state with its `freeDraws` replaced. -/
def State.withFreeDraws (s : State) (x : Nat) : State := { s with freeDraws := x }

/-- The state with its `pending` replaced. -/
def State.withPending (s : State) (x : List Instr) : State := { s with pending := x }

/-! ### Settings and measurements -/

/-- A plain setting as the working table holds it (R167). -/
def State.cfg (s : State) (k : Setting) : Nat := s.ss.table.val k

/-- The settings of a detector. -/
def State.detCfg (s : State) (d : Fin 32) : DetCfg := s.ss.table.dets[d]

/-- The measurement record of an analog channel (R5). -/
def State.analog (s : State) (ch : Fin 12) : AnalogRec := s.mu.analog[ch]

/-- The input record of digital input 16 + i (R11). -/
def State.input (s : State) (i : Fin 13) : InputRec := s.mu.inputs[i]

/-- The value a reader may use: the record is VALID or HELD (R9). -/
def AnalogRec.usable (r : AnalogRec) : Option Int :=
  match r.cond with
  | .valid | .held => r.value
  | _ => none

/-- The value of a VALID record. -/
def AnalogRec.fresh (r : AnalogRec) : Option Int :=
  match r.cond with
  | .valid => r.value
  | _ => none

/-- Channel 0, bus voltage (R1). -/
def chBus : Fin 12 := 0
/-- Channel 3, load current (R1). -/
def chLoad : Fin 12 := 3
/-- Channel 11, fuel level (R1). -/
def chFuel : Fin 12 := 11
/-- The current channel of a string (R1). -/
def chCurrent : StringId → Fin 12
  | .strA => 1
  | .strB => 2
/-- The temperature channel of a string (R1). -/
def chTemp : StringId → Fin 12
  | .strA => 4
  | .strB => 5

/-- Input 24, the site key (R1). -/
def inKey : Fin 13 := 8
/-- Input 25, MC-AUX (R1). -/
def inMcAux : Fin 13 := 9
/-- Input 26, GC-AUX (R1). -/
def inGcAux : Fin 13 := 10
/-- Input 27, engine running (R1). -/
def inRunning : Fin 13 := 11
/-- Input 28, engine fault (R1). -/
def inFault : Fin 13 := 12

/-- The engine running level (R11): present, absent or UNKNOWN. -/
def State.running (s : State) : Option Bool := (s.input inRunning).level

/-- The engine fault level (R11). -/
def State.faultLevel (s : State) : Option Bool := (s.input inFault).level

/-- Plant time, absent while the clock is unset (R123, R144). -/
def State.plantTime (s : State) : Option PlantTime :=
  if s.clk.isSet then some ⟨s.clk.day, s.clk.minute⟩ else none

/-! ### Accounts (R17, R34) -/

/-- The account of a string, while it exists (R17). -/
def State.account (s : State) : StringId → Option Account
  | .strA => some s.au.acctA
  | .strB => s.au.acctB

/-- The strings that exist (R17). -/
def State.strings (s : State) : List StringId :=
  if s.au.acctB.isSome then [.strA, .strB] else [.strA]

/-- The accounts that exist. -/
def State.accounts (s : State) : List Account := s.au.acctA :: s.au.acctB.toList

/-- The smallest SoC of the existing accounts (R34). -/
def State.lowestSoc (s : State) : Nat :=
  match s.au.acctB with
  | some b => min s.au.acctA.soc b.soc
  | none => s.au.acctA.soc

/-- Whether an existing account is STALE (R46, R143). -/
def State.someStale (s : State) : Bool := s.accounts.any fun a => a.conf == .stale

/-- The rated capacity setting of a string (R18). -/
def capSetting : StringId → Setting
  | .strA => .capA
  | .strB => .capB

/-- The taper threshold of a string in 0.1 A (R28, R49). -/
def State.taperThreshold (s : State) (g : StringId) : Nat := s.cfg (capSetting g) * s.cfg .taperPm / 100

/-! ### Module and detector records -/

/-- The service record of a slot (R80). -/
def State.mod (s : State) (k : Slot) : Module := s.rc.mods[k]

/-- The state with the service record of a slot replaced. -/
def State.setMod (s : State) (k : Slot) (m : Module) : State := s.withRc { s.rc with mods := s.rc.mods.set k m }

/-- The link record of a slot (R62). -/
def State.link (s : State) (k : Slot) : Link := s.sbc.links[k]

/-- The state with the link record of a slot replaced. -/
def State.setLink (s : State) (k : Slot) (l : Link) : State := s.withSbc { s.sbc with links := s.sbc.links.set k l }

/-- The entry of a detector (R142). -/
def State.det (s : State) (d : Fin 32) : Det := s.du.dets[d]

/-- The state with the entry of a detector replaced. -/
def State.setDet (s : State) (d : Fin 32) (e : Det) : State := s.withDu { s.du with dets := s.du.dets.set d e }

/-- An action on every slot in turn, slot 0 first. -/
def forSlots (f : Slot → State → State) (s : State) : State := (List.finRange 12).foldl (fun x k => f k x) s

/-- A count that stops at its largest value. -/
def bump (top n : Nat) : Nat := min top (n + 1)

/-! ### Notices (R158, R163) -/

/-- The value of one port. -/
def PerPort.get {α : Type} (v : PerPort α) : Port → α
  | .exchange => v.exchange
  | .telemetry => v.telemetry
  | .craft => v.craft

/-- The values with that of one port replaced by its image. -/
def PerPort.update {α : Type} (v : PerPort α) (q : Port) (f : α → α) : PerPort α :=
  match q with
  | .exchange => { v with exchange := f v.exchange }
  | .telemetry => { v with telemetry := f v.telemetry }
  | .craft => { v with craft := f v.craft }

/-- The values of all ports replaced by their images. -/
def PerPort.map {α : Type} (v : PerPort α) (f : α → α) : PerPort α :=
  ⟨f v.exchange, f v.telemetry, f v.craft⟩

/-- The attention line brought up to date: active while a pending kind is not masked (R158). -/
def PortRec.attend (p : PortRec) : PortRec := { p with attention := (p.pendingSet &&& ~~~p.mask) != 0#13 }

/-- A notice kind joins the pending set (R163). -/
def PortRec.raise (n : Notice) (p : PortRec) : PortRec := { p with pendingSet := p.pendingSet ||| n.bit }.attend

/-- The port record of a port. -/
def State.port (s : State) (q : Port) : PortRec := s.pc.ports.get q

/-- The state with the record of one port replaced by its image. -/
def State.onPort (s : State) (q : Port) (f : PortRec → PortRec) : State :=
  s.withPc { s.pc with ports := s.pc.ports.update q f }

/-- A notice is raised to one port (R163). -/
def raiseTo (q : Port) (n : Notice) (s : State) : State := s.onPort q (PortRec.raise n)

/-- A notice is raised to all ports (R163). -/
def raiseAll (n : Notice) (s : State) : State := s.withPc { s.pc with ports := s.pc.ports.map (PortRec.raise n) }

end Sys2Proof.Machine
end

