-- ==== Sys2Proof/Machine/Flags.lean ====
section
/-! DEFINITION. Flags and indications formed from records: link condition and present output state, module commands, actions in force, relays,
the supply source, good sources, fuel indications. -/

namespace Sys2Proof.Machine

/-! ### Shelf -/

/-- Link conditions (R62). -/
inductive LinkCond where
  | unfitted | unpolled | answering | fading | silent
  deriving DecidableEq, Repr

/-- Whether a slot is in the fitted set in force (R61). -/
def State.isFitted (s : State) (k : Slot) : Bool := s.sbc.fitted.getLsbD k.val

/-- The link condition of a slot (R62). -/
def State.linkCond (s : State) (k : Slot) : LinkCond :=
  let l := s.link k
  if !s.isFitted k then .unfitted
  else if !l.answered && l.missTally == 0 then .unpolled
  else if l.silence == 0 then .answering
  else if l.silence < 3 then .fading
  else .silent

/-- The present output state of a slot, none for UNKNOWN (R73). -/
def State.presentOutput (s : State) (k : Slot) : Option OutState :=
  if s.isFitted k && (s.link k).silence < 3 then (s.link k).lastGood.map Reply.out else none

/-- Whether an output state counts as running (R83, R91). -/
def OutState.isOn : OutState → Bool
  | .on | .limit => true
  | .off | .fault => false

/-- The command a service state gives (R79). -/
def Service.cmd : Service → ModCmd
  | .absent | .standby | .stopping => .standby
  | .starting | .running => .run
  | .resting | .retired | .held | .lost => .shut

/-- The command of a slot (R79): SHUT for every module while shelf shut is set. -/
def State.command (s : State) (k : Slot) : ModCmd := if s.rc.shut then .shut else (s.mod k).service.cmd

/-- Whether a module is in STARTING or RUNNING. -/
def Service.isOn : Service → Bool
  | .starting | .running => true
  | _ => false

/-- Whether a module is in STANDBY, STARTING or RUNNING (R82). -/
def Service.isAvailable : Service → Bool
  | .standby | .starting | .running => true
  | _ => false

/-- How many modules have a property. -/
def State.countMods (s : State) (p : Module → Bool) : Nat := s.rc.mods.toList.countP p

/-- Modules in STARTING or RUNNING. -/
def State.onCount (s : State) : Nat := s.countMods fun m => m.service.isOn

/-- Modules in RUNNING. -/
def State.runningCount (s : State) : Nat := s.countMods fun m => m.service == .running

/-! ### Detectors -/

/-- A latching detector: class LATCH, or BUS-OVERVOLT (R144). -/
def isLatching (d : Fin 32) (c : DetClass) : Bool := c == .latch || d.val == 3

/-- Whether the action of a detector of a class is in force in a state (R145). -/
def inForce (d : Fin 32) (c : DetClass) (st : DetState) : Bool :=
  let acts := c == .recover || c == .latch
  let held := st == .active || st == .holding || st == .latched
  match d.val with
  | 3 => st == .active || st == .latched
  | 4 | 5 | 8 | 13 | 14 | 20 => acts && held
  | 6 | 19 => st == .active || st == .holding
  | _ => false

/-- Whether the action of a detector is in force now (R145). -/
def State.actionOf (s : State) (d : Fin 32) : Bool := inForce d (s.detCfg d).cls (s.det d).state

/-- Whether a detector of a class in a state drives the relay of its severity (R149). -/
def drivesRelay (c : DetClass) (st : DetState) : Bool :=
  (c == .alarm || c == .recover || c == .latch) && (st == .active || st == .holding || st == .latched)

/-- The two relays formed afresh (R149): both in alarm until the first detector evaluation. -/
def formRelays (s : State) : State :=
  let any (v : Severity) := (List.finRange 32).any fun d => (s.detCfg d).sev == v && drivesRelay (s.detCfg d).cls (s.det d).state
  let protect := (List.finRange 32).any fun d => isProtect d && s.actionOf d
  s.withDu { s.du with majorAlarm := !s.du.evaluated || any .major || protect, minorAlarm := !s.du.evaluated || any .minor }

/-! ### Supply -/

/-- The record of a contactor. -/
def Sc.contactor (c : Sc) : Contactor → ContactorRec
  | .mc => c.mc
  | .gc => c.gc

/-- The auxiliary input of a contactor (R1). -/
def auxInput : Contactor → Fin 13
  | .mc => inMcAux
  | .gc => inGcAux

/-- The source as the commands and the auxiliary levels form it (R100). -/
def State.formedSource (s : State) : Source :=
  if s.sc.mc.closed && (s.input inMcAux).level == some true then .mains
  else if s.sc.gc.closed && (s.input inGcAux).level == some true then .generator
  else .none

/-- The test of R101 on a voltage and a frequency record. -/
def State.sourceGood (s : State) (volts freq : Fin 12) : Bool :=
  match (s.analog volts).fresh, (s.analog freq).fresh with
  | some v, some f =>
    (s.cfg .mainsVLo : Int) ≤ v && v ≤ s.cfg .mainsVHi && (s.cfg .fLo : Int) ≤ f && f ≤ s.cfg .fHi
  | _, _ => false

/-- The mains is good (R101). -/
def State.mainsGood (s : State) : Bool := s.sourceGood 7 8

/-- The generator is good (R101). -/
def State.genGood (s : State) : Bool := s.sourceGood 9 10

/-! ### Fuel (R136) -/

/-- The fuel indications formed afresh (R136). -/
def formFuelIndications (s : State) : State :=
  let senderLow := match (s.analog chFuel).usable with
    | some v => v < 20
    | none => false
  s.withRqu { s.rqu with
    reserve := s.rqu.fuel < s.cfg .reserveL * 10
    exhausted := s.rqu.fuel == 0 || senderLow }

end Sys2Proof.Machine
end

