-- ==== Sys2Proof/Machine/Measure.lean ====
section
/-! DEFINITION. The Measurement Unit (spec 01_plant_measurements.md): the period completion. -/

namespace Sys2Proof.Machine

/-- The period value: the mean of the four samples, rounded toward zero (R3). -/
def periodValue (p : AnalogPeriod) : Int := (p.s0.value + p.s1.value + p.s2.value + p.s3.value).tdiv 4

/-- Some sample stands at an end stop the predicate names. -/
def anyStop (p : AnalogPeriod) (f : EndStop → Bool) : Bool := f p.s0.stop || f p.s1.stop || f p.s2.stop || f p.s3.stop

/-- The plausibility test of R4, row by row of its table (notes/assumptions/13.md). -/
def implausible (ch : Fin 12) (p : AnalogPeriod) : Bool :=
  let v := periodValue p
  let stopped := anyStop p (· != .none)
  match ch.val with
  | 0 | 11 => stopped
  | 1 | 2 => stopped || v < -8100 || v > 8100
  | 3 => stopped || v < -100 || v > 8100
  | 4 | 5 | 6 => stopped || v < -450 || v > 900
  | 7 | 9 => anyStop p (· == .upper)
  | _ => v > 1000

/-- The clamping of a plausible period value (R4). -/
def clampReported (ch : Fin 12) (v : Int) : Int :=
  match ch.val with
  | 1 | 2 => max (-8000) (min 8000 v)
  | 3 => max 0 (min 8000 v)
  | 4 | 5 | 6 => max (-400) (min 850 v)
  | 11 => max 0 (min 1000 v)
  | _ => v

/-- What a period gives a channel: the clamped value when it is plausible (R4). -/
def plausibleValue (ch : Fin 12) (p : AnalogPeriod) : Option Int :=
  if implausible ch p then none else some (clampReported ch (periodValue p))

/-- The mean of a window, rounded toward zero (R7, R8). -/
def windowMean (w : List Int) : Int := w.sum.tdiv w.length

/-- A value joins the end of a window of a size; the oldest goes when there would be one more (R7, R8). -/
def pushWindow (size : Nat) (w : List Int) (v : Int) : List Int :=
  let w' := w ++ [v]
  w'.drop (w'.length - size)

/-- The record after a plausible period (R6, R7, R8). -/
def acceptPeriod (ch : Fin 12) (r : AnalogRec) (v : Int) : AnalogRec :=
  match Config.windowSize ch with
  | none => ⟨.valid, some v, 0, []⟩
  | some size =>
    let w := if r.cond = .valid then pushWindow size r.window v else [v]
    ⟨.valid, some (windowMean w), 0, w⟩

/-- The record after an implausible period (R6, R9). -/
def rejectPeriod (ch : Fin 12) (r : AnalogRec) : AnalogRec :=
  let age := bump 65535 r.heldAge
  let next := if Config.holdTime ch ≤ age then Cond.lapsed else .held
  match r.cond with
  | .empty => r
  | .valid | .held => { r with cond := next, heldAge := age }
  | .lapsed => { r with heldAge := age }

/-- One channel's record at a period completion (R6). -/
def analogStep (ch : Fin 12) (p : AnalogPeriod) (r : AnalogRec) : AnalogRec :=
  match plausibleValue ch p with
  | some v => acceptPeriod ch r v
  | none => rejectPeriod ch r

/-- One input's record at a period completion (R11, R12). -/
def inputStep (x : Bool) (r : InputRec) : InputRec :=
  let joined := r.recent ++ [x]
  let recent := joined.drop (joined.length - 3)
  if recent == [x, x, x] && r.level != some x then ⟨some x, recent, true⟩ else { r with recent := recent }

/-- The period completion of the MU (R2): every record brought up to date in one step. -/
def muCompletion (r : Readings) (s : State) : State :=
  s.withMu ⟨vgen fun ch => analogStep ch r.analog[ch] (s.analog ch), vgen fun i => inputStep r.inputs[i] (s.input i)⟩

/-- The site hold ends at the completion at which the site key level becomes inactive (R162), given the level before it. -/
def siteKeyEnd (before : Option Bool) (s : State) : State :=
  if (s.input inKey).level = some false ∧ before ≠ some false then s.withPc { s.pc with siteHold := false } else s

/-- The completion of a measurement period with what follows it in the MU and the PC (R2, R162). -/
def completePeriod (r : Readings) (s : State) : State :=
  siteKeyEnd (s.input inKey).level (muCompletion r s)

end Sys2Proof.Machine
end

