-- ==== Sys2Proof/Machine/Account.lean ====
section
/-! DEFINITION. The Account Unit (spec 02_the_battery_account.md): the account update, anchoring, the checkpoint and its restore. -/

namespace Sys2Proof.Machine

/-- The capacity factor setting of a band (R18). -/
def capFactor (band : Nat) : Setting :=
  match band with
  | 0 => .capf0
  | 1 => .capf1
  | 2 => .capf2
  | 3 => .capf3
  | 4 => .capf4
  | _ => .capf5

/-- The effective capacity of a string in a band (R18). -/
def cfullOf (t : Settings) (g : StringId) (band : Nat) : Nat := t.val (capSetting g) * 36000 * t.val (capFactor band) / 256

/-- The band the table gives for a temperature in tenths of a degree (R19). -/
def tableBand (x : Int) : Nat :=
  if x < -200 then 0 else if x < -100 then 1 else if x < 0 then 2 else if x < 100 then 3 else if x < 200 then 4 else 5

/-- The lower edge of a band, -200 for band 1 to 200 for band 5 (R19). -/
def lowerEdge (band : Nat) : Int := 100 * band - 300

/-- The band with the dead zone of 0.5 °C at each boundary (R19). -/
def deadZoneBand (k : Nat) (x : Int) : Nat :=
  if (k = 0 ∨ lowerEdge k - 5 < x) ∧ (k = 5 ∨ x < lowerEdge (k + 1) + 5) then k else tableBand x

/-- The band and the assumed field after a temperature is read (R19, R20). -/
def settleBand (temp : AnalogRec) (a : Account) : Account :=
  match temp.usable with
  | none => a
  | some x => if a.assumed then { a with band := tableBand x, assumed := false } else { a with band := deadZoneBand a.band x }

/-- The current chosen for an update (R22): its value, and whether it is measured (a substituted 0 is not). -/
structure Chosen where
  amps : Int
  measured : Bool
  deriving DecidableEq, Repr

/-- The current-lost count after an update (R22). -/
def lostCount (cur : AnalogRec) (lost : Nat) : Nat := if cur.cond = .valid then 0 else bump 65535 lost

/-- The current R22 chooses, given the current-lost count after this update. -/
def chooseCurrent (cur : AnalogRec) (lost : Nat) : Chosen :=
  match cur.cond with
  | .valid => ⟨cur.value.getD 0, true⟩
  | .held => if lost ≤ 10 then ⟨cur.value.getD 0, true⟩ else ⟨0, false⟩
  | _ => ⟨0, false⟩

/-- The rescale of R23 to a newly formed effective capacity. -/
def rescale (cfull : Nat) (a : Account) : Account :=
  if cfull = a.cfull then a else { a with q := a.q * cfull / a.cfull, cfull := cfull }

/-- The charge efficiency for a SoC (R24). -/
def efficiency (t : Settings) (soc : Nat) : Nat :=
  if soc < 800 then t.val .eta1 else if soc < 950 then t.val .eta2 else t.val .eta3

/-- The current applied and the content clamped (R24, R25, R26). -/
def applyCurrent (eta : Nat) (amps : Int) (a : Account) : Account :=
  if 0 < amps then
    let p := amps.toNat * eta + a.residue
    { a with q := min a.cfull (a.q + p / 256), residue := p % 256 }
  else
    let q := (a.q : Int) + amps
    if q < 0 then { a with q := 0, conf := .unsure } else { a with q := min a.cfull q.toNat }

/-- The SoC and the runtime (R27). -/
def formFigures (amps : Int) (a : Account) : Account :=
  { a with
    soc := a.q * 1000 / a.cfull
    runtime := if amps < 0 then min 65534 (a.q / (amps.natAbs * 60)) else 65535 }

/-- The taper condition of R28 for a string. -/
def taperHolds (s : State) (g : StringId) (i : Chosen) : Bool :=
  s.cc.mode == .float && i.measured && 0 ≤ i.amps && i.amps ≤ s.taperThreshold g &&
    (match (s.analog chBus).usable with
     | some v => (s.cc.setpoint : Int) - 100 ≤ v
     | none => false)

/-- The taper count advanced or returned to 0 (R28). -/
def countTaper (holds : Bool) (a : Account) : Account :=
  if holds then
    if a.taperSec + 1 ≥ 60 then { a with taperSec := 0, taperMin := bump 65535 a.taperMin } else { a with taperSec := a.taperSec + 1 }
  else { a with taperSec := 0, taperMin := 0 }

/-- An account set to full by an anchor (R29). -/
def anchored (a : Account) : Account :=
  { a with q := a.cfull, residue := 0, soc := 1000, hours := 0, anchorSec := 0, taperMin := 0, taperSec := 0, conf := .anchored,
           restored := none }

/-- The anchor seconds and hours advanced, and drift (R31). -/
def countHours (driftLimit : Nat) (a : Account) : Account :=
  let b := if a.anchorSec + 1 ≥ 3600 then { a with anchorSec := 0, hours := bump 65535 a.hours } else { a with anchorSec := a.anchorSec + 1 }
  if driftLimit ≤ b.hours ∧ b.conf = .anchored then { b with conf := .stale } else b

/-- CURRENT-SENSE-LOST's action is in force (R32). -/
def State.cslAction (s : State) : Bool := s.actionOf 8

/-- Steps 1 to 6 of R21 for one account: band and capacity, current, rescale, charge or discharge, clamps, SoC and runtime. R32 acts with
step 2 (notes/assumptions/21.md). -/
def accountCharge (s : State) (g : StringId) (a : Account) : Account :=
  let cur := s.analog (chCurrent g)
  let eta := efficiency s.ss.table a.soc
  let lost := lostCount cur a.lost
  let i := chooseCurrent cur lost
  let unsure := !i.measured || (s.cslAction && cur.cond != .valid)
  let b := settleBand (s.analog (chTemp g)) a
  let c := { b with lost := lost, conf := if unsure then .unsure else b.conf }
  let d := rescale (cfullOf s.ss.table g c.band) c
  formFigures i.amps (applyCurrent eta i.amps d)

/-- The current chosen for a string at an update made now (R22). -/
def currentNow (s : State) (g : StringId) (a : Account) : Chosen :=
  let cur := s.analog (chCurrent g)
  chooseCurrent cur (lostCount cur a.lost)

/-- Whether the account anchors at an update made now (R29), given the account as step 6 leaves it. -/
def anchorsNow (s : State) (g : StringId) (i : Chosen) (a : Account) : Bool :=
  taperHolds s g i && s.cfg .anchorMin ≤ (countTaper true a).taperMin

/-- One account at an account update (R21), and whether it anchored. Steps 7 and 8 follow R32's UNSURE, so that a HELD current within the count of
R22 that anchors while the action of id 8 is in force leaves the account ANCHORED: the model's choice (notes/assumptions/21.md). -/
def accountStep (s : State) (g : StringId) (a : Account) : Account × Bool :=
  let i := currentNow s g a
  let b := accountCharge s g a
  let anchors := anchorsNow s g i b
  let c := countTaper (taperHolds s g i) b
  let d := if anchors then anchored c else c
  (countHours (s.cfg .driftLimit) d, anchors)

/-- A change of STRINGS reaches string B's account (R17). -/
def followStrings (s : State) : State :=
  if s.cfg .strings = 1 then s.withAu { s.au with acctB := none }
  else match s.au.acctB with
    | some _ => s
    | none => s.withAu { s.au with acctB := some (Account.half (cfullOf s.ss.table .strB 5)) }

/-- The imbalance indication (R33). -/
def imbalanceOf (s : State) (a : Account) (b : Option Account) : Imbalance :=
  match b with
  | none => .notEvaluated
  | some b =>
    if (s.analog (chCurrent .strA)).cond ≠ .valid ∨ (s.analog (chCurrent .strB)).cond ≠ .valid then .notEvaluated
    else if ((a.soc : Int) - b.soc).natAbs > s.cfg .imbalPm then .imbalanced
    else .balanced

/-! ### Non-volatile copies (R37, R168) -/

/-- A copy is valid when its mark is set and its check agrees with its content (R37). -/
def NvCopy.isValid {α : Type} (c : NvCopy α) : Bool := c.mark && c.checkAgrees && c.content.isSome

/-- A copy of an area. -/
def NvArea.copy {α : Type} (v : NvArea α) : CopyId → NvCopy α
  | .first => v.first
  | .second => v.second

/-- An area with one copy replaced. -/
def NvArea.setCopy {α : Type} (v : NvArea α) (i : CopyId) (c : NvCopy α) : NvArea α :=
  match i with
  | .first => { v with first := c }
  | .second => { v with second := c }

/-- The sequence number one greater, 4,294,967,295 plus 1 counting as 0 (R37). -/
def nextSeq (n : Nat) : Nat := (n + 1) % 4294967296

/-- The later valid copy (R37); of two valid copies neither of which follows the other, which no write leaves, the given one. -/
def NvArea.later {α : Type} (v : NvArea α) (either : CopyId) : Option CopyId :=
  match v.first.isValid, v.second.isValid with
  | false, false => none
  | true, false => some .first
  | false, true => some .second
  | true, true =>
    if v.second.seq = nextSeq v.first.seq then some .second
    else if v.first.seq = nextSeq v.second.seq then some .first
    else some either

/-- The other copy. -/
def CopyId.other : CopyId → CopyId
  | .first => .second
  | .second => .first

/-- The copy the spec leaves open, at the nth such choice (notes/assumptions/7.md). -/
def freeCopy (n : Nat) : CopyId := if Config.eitherCopyIsFirst n then .first else .second

/-- The copy a write takes: the one that is not the later valid copy (R37). -/
def NvArea.target {α : Type} (v : NvArea α) (either : CopyId) : CopyId :=
  match v.later either with
  | some i => i.other
  | none => either

/-- The sequence number a write takes (R37). -/
def NvArea.writeSeq {α : Type} (v : NvArea α) (either : CopyId) : Nat :=
  match v.later either with
  | some i => nextSeq (v.copy i).seq
  | none => 0

/-- A write begun (R37, stages 1 and 2): the validity mark of the target is clear while content, sequence number and check are written. -/
def NvArea.beginWrite {α : Type} (v : NvArea α) (either : CopyId) (x : α) : NvArea α :=
  v.setCopy (v.target either) ⟨false, true, v.writeSeq either, some x⟩

/-- A write completed (R37, stage 3): the validity mark is set. -/
def NvArea.complete {α : Type} (v : NvArea α) (i : CopyId) : NvArea α := v.setCopy i { v.copy i with mark := true }

/-- The content of the later valid copy, if there is one. -/
def NvArea.laterContent {α : Type} (v : NvArea α) (either : CopyId) : Option α :=
  (v.later either).bind fun i => (v.copy i).content

/-- What a checkpoint takes of an account (R36). -/
def ckptString (a : Account) : CkptString := ⟨a.q, a.residue, a.conf, a.hours⟩

/-- The content of a checkpoint formed now (R36). -/
def ckptContent (s : State) : Ckpt :=
  ⟨ckptString s.au.acctA, s.au.acctB.map ckptString, vmap (·.runMinutes) s.rc.mods, s.rqu.fuel, s.rqu.residue⟩

/-- A checkpoint write begins (R37). -/
def beginCkptWrite (x : Ckpt) (s : State) : State :=
  let e := freeCopy s.freeDraws
  (s.withSs { s.ss with ckpt := s.ss.ckpt.beginWrite e x, ckptWrite := some (s.ss.ckpt.target e) }).withFreeDraws (s.freeDraws + 1)

/-- A checkpoint is started (R36, R37): written at once, or waiting while a write is in progress. -/
def startCheckpoint (s : State) : State :=
  match s.ss.ckptWrite with
  | some _ => s.withSs { s.ss with ckptWaiting := some (ckptContent s) }
  | none => beginCkptWrite (ckptContent s) s

/-- The completion of a checkpoint write (R37); nothing when none is in progress (the model's choice, notes/assumptions/48.md). -/
def checkpointComplete (s : State) : State :=
  match s.ss.ckptWrite with
  | none => s
  | some i =>
    let t := s.withSs { s.ss with ckpt := s.ss.ckpt.complete i, ckptWrite := none, ckptWaiting := none }
    match s.ss.ckptWaiting with
    | some x => beginCkptWrite x t
    | none => t

/-! ### The account update -/

/-- Whether the checkpoint count reaches its period at an update made now (R36). -/
def checkpointCountDue (s : State) : Bool := s.au.count + 1 ≥ Config.checkpointPeriod

/-- The accounts at an update (R21, steps 1 to 8), with the imbalance indication and the checkpoint count; and whether one anchored. -/
def accountsStep (s : State) : State × Bool :=
  let (a, anchA) := accountStep s .strA s.au.acctA
  let (b, anchB) := match s.au.acctB with
    | some b => let (b', y) := accountStep s .strB b; (some b', y)
    | none => (none, false)
  let count := if checkpointCountDue s then 0 else s.au.count + 1
  (s.withAu ⟨a, b, count, imbalanceOf s a b⟩, anchA || anchB)

/-- The account update of the AU (R21, R36). -/
def auUpdate (s : State) : State :=
  let t := followStrings s
  let (u, anchoredNow) := accountsStep t
  if checkpointCountDue t || anchoredNow then startCheckpoint u else u

/-! ### Restore (R38, R40, R41) -/

/-- An account restored from a checkpoint (R40). -/
def restoreAccount (cfull : Nat) (c : CkptString) : Account :=
  let q := min c.q cfull
  ⟨q, c.residue, cfull, 5, true, q * 1000 / cfull, 65535, .unsure, c.hours, 0, 0, 0, 0, some c.conf⟩

/-- A string's account at start-up (R38): restored where the copy carries it, else set up at half capacity. -/
def startAccount (t : Settings) (g : StringId) (c : Option CkptString) : Account :=
  match c with
  | some x => restoreAccount (cfullOf t g 5) x
  | none => Account.half (cfullOf t g 5)

/-- The AU at start-up, from the later valid checkpoint copy if there is one (R38). -/
def startAu (t : Settings) (c : Option Ckpt) : Au :=
  ⟨startAccount t .strA (c.map Ckpt.strA),
   if t.val .strings = 2 then some (startAccount t .strB (c.bind Ckpt.strB)) else none, 0, .notEvaluated⟩

end Sys2Proof.Machine
end

