-- ==== Sys2Proof/Machine/Rotation.lean ====
section
/-! DEFINITION. The Rotation Controller's shared operations (spec 05_demand_walk_in_and_rotation.md): service states, demand, walk-in, removal,
rotation, and the changes of the source. -/

namespace Sys2Proof.Machine

/-! ### Choosing modules -/

/-- The module with the most run minutes among those with a property, the higher slot among equals (R86, R87, R95). -/
def State.mostWorn (s : State) (p : Module → Bool) : Option Slot :=
  (List.finRange 12).foldl (fun best k =>
    if p (s.mod k) then
      match best with
      | none => some k
      | some b => if (s.mod b).runMinutes ≤ (s.mod k).runMinutes then some k else some b
    else best) none

/-- The module with the fewest run minutes among those with a property, the lower slot among equals (R95). -/
def State.leastWorn (s : State) (p : Module → Bool) : Option Slot :=
  (List.finRange 12).foldl (fun best k =>
    if p (s.mod k) then
      match best with
      | none => some k
      | some b => if (s.mod k).runMinutes < (s.mod b).runMinutes then some k else some b
    else best) none

/-- The order of R84: skip mark clear first, then fewest run minutes. -/
def startsBefore (a b : Module) : Bool :=
  if a.skip == b.skip then a.runMinutes ≤ b.runMinutes else !a.skip

/-- A slot put in its place in a list kept in the order of R84; it goes before its equals. -/
def insertSlot (s : State) (k : Slot) : List Slot → List Slot
  | [] => [k]
  | j :: rest => if startsBefore (s.mod k) (s.mod j) then k :: j :: rest else j :: insertSlot s k rest

/-- The STANDBY modules not queued, in the order of R84: skip mark, run minutes, slot. -/
def State.candidates (s : State) : List Slot :=
  ((List.finRange 12).filter fun k => (s.mod k).service == .standby && !s.rc.queue.contains k).foldr (insertSlot s) []

/-! ### Changes of service state -/

/-- A module enters a service state (R79): its time in state returns to 0, MODULE-CHANGE goes to all ports, and fields of the state it leaves
go. A module that is not in STANDBY stands in no queue (R84, R85). Nothing happens to a module already in the state. -/
def placeService (k : Slot) (st : Service) (s : State) : State :=
  let m := s.mod k
  if m.service = st then s
  else
    let m' := { m with
      service := st
      timeIn := 0
      dropout := none
      stopCheck := st == .stopping
      holdOrigin := none
      retireCause := none }
    let t := raiseAll .moduleChange (s.setMod k m')
    if st = .standby then t else t.withRc { t.rc with queue := t.rc.queue.filter (· != k) }

/-- What a change of a module's service state does to a swap in flight (R96). -/
def followSwap (k : Slot) (old new : Service) (s : State) : State :=
  match s.rc.swap with
  | none => s
  | some (h, l) =>
    let ended := s.withRc { s.rc with swap := none }
    if k = l ∧ old = .starting then
      if new = .running ∧ (s.mod h).service = .running then placeService h .stopping ended else ended
    else if k = h ∧ old = .running then ended
    else s

/-- A module enters a service state, with what this does to a swap in flight (R79, R96). -/
def setService (k : Slot) (st : Service) (s : State) : State :=
  let old := (s.mod k).service
  if old = st then s else followSwap k old st (placeService k st s)

/-! ### Demand (R81 to R86) -/

/-- The recharge want of R82, step 1. -/
def State.rechargeWant (s : State) : Nat :=
  match s.cc.mode with
  | .boost | .refresh => s.cc.total
  | _ => (s.strings.map fun g => ((s.analog (chCurrent g)).usable.getD 0).toNat).sum

/-- The raw need of R82, steps 1 to 3; the one that stands while the load current is lost. Before the first usable load current that is the
MIN_RUN_MODULES of start-up, which a later write of the setting does not change: the model's choice (notes/assumptions/45.md). -/
def State.rawNeedNow (s : State) : Nat :=
  match (s.analog chLoad).usable with
  | none => s.rc.rawNeed
  | some load =>
    let target := s.cfg .modRating * s.cfg .loadTargetPm / 1000
    max (s.cfg .minRunModules) (ceilDiv (load.toNat + s.rechargeWant) target + s.cfg .spare)

/-- n_need from a raw need (R82, steps 4 and 5). -/
def State.needFrom (s : State) (raw : Nat) : Nat :=
  let n := min raw (s.countMods fun m => m.service.isAvailable)
  if s.rc.shut then 0
  else match s.sc.source with
    | .none => 0
    | .mains => n
    | .generator => min n (s.cfg .genCap)

/-- R82: raw need, n_need and capacity short formed afresh. -/
def formNeed (s : State) : State :=
  let raw := s.rawNeedNow
  s.withRc { s.rc with
    rawNeed := raw
    nNeed := s.needFrom raw
    capShort := (s.countMods fun m => m.service.isAvailable) < raw }

/-- The skip marks are cleared when no STANDBY module with a clear one remains (R84). -/
def relieveSkips (s : State) : State :=
  if s.rc.mods.toList.any fun m => m.service == .standby && !m.skip then s
  else s.withRc { s.rc with mods := vmap (fun m => { m with skip := false }) s.rc.mods }

/-- The room for queued modules (R84). -/
def State.room (s : State) : Nat := s.rc.nNeed - s.onCount

/-- The walk-in queue trimmed to the room or filled (R84). -/
def updateQueue (s : State) : State :=
  let q := s.rc.queue
  let q' := if s.room < q.length then q.take s.room else q ++ s.candidates.take (s.room - q.length)
  s.withRc { s.rc with queue := q' }

/-- Whether one more module may start (R85). -/
def State.mayStart (s : State) : Bool :=
  s.onCount < s.rc.nNeed && (s.sc.source != .generator || s.onCount < s.cfg .genCap)

/-- A module is started (R85): it enters STARTING, its start count rises, and the walk-in timer starts afresh when the queue started it. -/
def startModule (timed : Bool) (k : Slot) (s : State) : State :=
  let t := setService k Service.starting s
  let u := t.setMod k { t.mod k with startCount := bump 65535 (t.mod k).startCount }
  if timed then u.withRc { u.rc with walkTimer := some (u.cfg .walkinS) } else u

/-- The first queued module starts when the walk-in timer is idle and one more may start (R85). -/
def startHead (s : State) : State :=
  match s.rc.queue, s.rc.walkTimer with
  | k :: _, none => if s.mayStart then startModule true k s else s
  | _, _ => s

/-- The removal hold begins, goes on or becomes idle (R86). -/
def updateRemoval (s : State) : State :=
  if s.rc.nNeed < s.runningCount then
    s.withRc { s.rc with removal := some (s.rc.removal.getD 0) }
  else s.withRc { s.rc with removal := none }

/-- The current limit of R83, given the load current. -/
def State.currentLimit (s : State) (load : Int) : Nat :=
  clampTo (s.cfg .modRating / 10) (s.cfg .modRating) (ceilDiv (load.toNat + s.cc.total) (max 1 s.onCount) : Nat)

/-- The setpoint a demand evaluation places: the Charge Controller's, within the bus range (R81, R83, notes/assumptions/14.md). -/
def State.placedSetpoint (s : State) : Nat := clampTo (s.cfg .vbusMin) (s.cfg .vbusMax) s.cc.setpoint

/-- The bus setpoint and the current limit placed in every service record (R83). -/
def placeValues (s : State) : State :=
  let limit (m : Module) := match (s.analog chLoad).usable with
    | some load => s.currentLimit load
    | none => m.limit
  s.withRc { s.rc with mods := vmap (fun m => { m with setpoint := s.placedSetpoint, limit := limit m }) s.rc.mods }

/-- A demand evaluation (R81): none is made before the round result is taken. -/
def demandEval (s : State) : State :=
  if s.startStep = .running then
    relieveSkips (placeValues (updateRemoval (startHead (updateQueue (relieveSkips (formNeed s))))))
  else s

/-- The placed setpoints brought into a newly written bus range (R81). -/
def clampPlaced (s : State) : State :=
  s.withRc { s.rc with mods := vmap (fun m => { m with setpoint := clampTo (s.cfg .vbusMin) (s.cfg .vbusMax) m.setpoint }) s.rc.mods }

/-! ### Reductions that do not wait (R87) -/

/-- Every module in STARTING or RUNNING enters STOPPING, and queue, timers and swap go (R87). The one demand evaluation of R81 is its callers' and
follows the last slot (the model's choice, notes/assumptions/43.md). -/
def stopAll (s : State) : State :=
  let t := forSlots (fun k x => if (x.mod k).service.isOn then setService k .stopping x else x) (s.withRc { s.rc with swap := none })
  t.withRc { t.rc with queue := [], walkTimer := none, removal := none }

/-- One module in surplus to GEN_CAP enters STOPPING (R87). -/
def stopSurplusOne (s : State) : State :=
  if s.cfg .genCap < s.onCount then
    match s.mostWorn (fun m => m.service.isOn) with
    | some k => setService k .stopping s
    | none => s
  else s

/-- On GENERATOR the surplus to GEN_CAP enters STOPPING (R87). The one demand evaluation of R81 is its callers' and follows the last slot (the
model's choice, notes/assumptions/43.md). -/
def capTest (s : State) : State :=
  if s.sc.source = .generator then (List.range 12).foldl (fun x _ => stopSurplusOne x) s else s

/-- A change of the supply source at the RC (R87, R96), with its demand evaluation (R81). -/
def rcSourceChange (s : State) : State :=
  match s.sc.source with
  | .none => demandEval (stopAll s)
  | .mains => demandEval (s.withRc { s.rc with swap := none })
  | .generator =>
    let t := match s.rc.swap with
      | some (_, l) => if (s.mod l).service = Service.starting then setService l Service.stopping s else s
      | none => s
    demandEval (capTest (t.withRc { t.rc with swap := none }))

/-- A change of the shelf shut field (R79, R87). -/
def setShut (on : Bool) (s : State) : State :=
  if s.rc.shut = on then s
  else
    let t := s.withRc { s.rc with shut := on }
    demandEval (if on then stopAll t else t)

/-! ### Rotation (R95) -/

/-- The swap a rotation event on MAINS may make, H and L (R95, step 3). -/
def State.swapChoice (s : State) : Option (Slot × Slot) :=
  match s.mostWorn (fun m => m.service == .running), s.leastWorn (fun m => m.service == .standby) with
  | some h, some l =>
    if (s.mod l).runMinutes + s.cfg .rotateMarginH * 60 < (s.mod h).runMinutes then some (h, l) else none
  | _, _ => none

/-- A rotation event (R95). -/
def rotationEvent (s : State) : State :=
  let t := s.withRc { s.rc with mods := vmap (fun m => { m with skip := false }) s.rc.mods }
  let again := t.withRc { t.rc with rotation := t.cfg .rotateH * 60 }
  if t.sc.source ≠ .mains then t.withRc { t.rc with rotation := 60 }
  else if t.rc.swap.isSome then again
  else match again.swapChoice with
    | none => again
    | some (h, l) => demandEval (startModule false l (again.withRc { again.rc with swap := some (h, l) }))

/-- Rotation remaining at a minute event reaches 0 (R95). -/
def rotationDue (s : State) : Bool := s.rc.rotation ≤ 1

/-- Rotation remaining at a minute event (R95). -/
def rotationMinute (s : State) : State :=
  let t := s.withRc { s.rc with rotation := s.rc.rotation - 1 }
  if rotationDue s then rotationEvent t else t

/-- Run minutes at a minute event (R91). -/
def runMinutesStep (s : State) : State :=
  let count (k : Slot) (m : Module) : Module :=
    if (s.presentOutput k).elim false OutState.isOn then { m with runMinutes := bump 16777215 m.runMinutes } else m
  s.withRc { s.rc with mods := vgen fun k => count k (s.mod k) }

end Sys2Proof.Machine
end

