-- ==== Sys2Proof/Machine/Charge.lean ====
section
/-! DEFINITION. The Charge Controller (spec 03_charge_modes_and_the_bus_setpoint.md): modes, setpoint, recharge limit. -/

namespace Sys2Proof.Machine

/-- The compensation temperature (R53). -/
def State.compensation (s : State) : Nat :=
  let temps := s.strings.filterMap fun g => (s.analog (chTemp g)).usable
  match temps with
  | [] => 250
  | x :: rest => (max 0 (min 400 (rest.foldl max x))).toNat

/-- Division to the nearest whole number, halves away from zero (R54). -/
def roundNearest (n : Int) (d : Nat) : Int :=
  if 0 ≤ n then (2 * n + d) / (2 * d) else -((-(2 * n) + d) / (2 * d))

/-- The per-cell setpoint in mV (R54). -/
def perCell (t : Settings) (mode : ChargeMode) (tc : Nat) : Int :=
  let cell : Nat := match mode with
    | .float | .restricted => t.val .vfCell
    | .boost | .refresh => t.val .vbCell
  (cell : Int) - roundNearest ((t.val .slope : Int) * ((tc : Int) - 250)) 10000

/-- The bus setpoint in mV (R55). -/
def busSetpoint (t : Settings) (mode : ChargeMode) (tc : Nat) : Nat :=
  let v := (t.val .cells : Int) * perCell t mode tc - (if mode = .restricted then 1200 else 0)
  clampTo (t.val .vbusMin) (t.val .vbusMax) v

/-- The recharge limit of a string (R57). -/
def stringLimit (t : Settings) (g : StringId) : Nat := t.val (capSetting g) * t.val .limitPm / 100

/-- T_c, the setpoint and the limits of a charge record, formed for a compensation temperature (R53 to R57). -/
def formResults (t : Settings) (hasB : Bool) (tc : Nat) (c : Cc) : Cc :=
  let a := stringLimit t .strA
  let b := if hasB then some (stringLimit t .strB) else none
  let sum := a + b.getD 0
  { c with
    tc := tc
    setpoint := busSetpoint t c.mode tc
    limitA := a
    limitB := b
    total := if c.mode = .restricted then sum / 2 else sum }

/-- The CC recomputes its results now (R43, R44 step 4). -/
def recompute (s : State) : State := s.withCc (formResults s.ss.table s.au.acctB.isSome s.compensation s.cc)

/-- A change of the charge mode (R43), with the boost time of the new mode. Nothing when the mode is the present one. -/
def setMode (mode : ChargeMode) (boost : Option Nat) (s : State) : State :=
  if s.cc.mode = mode then s
  else demandEval (raiseAll .chargeMode (recompute
    (s.withCc { s.cc with mode := mode, boostRemaining := boost, taperExit := 0 })))

/-- The boost time of R45, R46 and R47, in minutes. -/
def State.boostTime (s : State) : Nat := s.cfg .boostMax * 60

/-- In BOOST or REFRESH. -/
def ChargeMode.boosts : ChargeMode → Bool
  | .boost | .refresh => true
  | _ => false

/-- The taper-exit condition (R49). -/
def State.taperExitHolds (s : State) : Bool :=
  s.strings.all fun g => match (s.analog (chCurrent g)).usable with
    | some v => v ≤ s.taperThreshold g
    | none => false

/-- Whether the taper exit ends the mode at a charge evaluation made now (R49). -/
def taperExitDue (s : State) : Bool :=
  s.cc.mode.boosts && s.sc.source != .none && s.taperExitHolds && s.cc.taperExit + 1 ≥ Config.taperExitSeconds

/-- A BOOST or REFRESH that has run to its end (R48, R49, R51): FLOAT, entry disarmed, refresh done. -/
def endBoost (s : State) : State := setMode .float none (s.withCc { s.cc with armed := false, refreshDone := true })

/-- Step 1 of the charge evaluation (R44, R49). -/
def taperExitStep (s : State) : State :=
  if taperExitDue s then endBoost s
  else if s.cc.mode.boosts ∧ s.sc.source ≠ .none then
    s.withCc { s.cc with taperExit := if s.taperExitHolds then s.cc.taperExit + 1 else 0 }
  else s

/-- Step 2 of the charge evaluation (R44). -/
def rearmStep (s : State) : State :=
  s.withCc { s.cc with
    armed := s.cc.armed || s.cfg .boostEntryPm ≤ s.lowestSoc
    refreshDone := s.cc.refreshDone && s.someStale }

/-- Whether R45 starts a BOOST. -/
def State.boostEntry (s : State) : Bool :=
  (s.cc.mode == .float || s.cc.mode == .refresh) && s.cc.armed && s.sc.source != .none && s.lowestSoc < s.cfg .boostEntryPm

/-- Whether R46 starts a REFRESH. -/
def State.refreshEntry (s : State) : Bool :=
  s.cc.mode == .float && s.someStale && s.sc.source == .mains && !s.cc.refreshDone

/-- Step 3 of the charge evaluation (R44, R45, R46). -/
def entryStep (s : State) : State :=
  if s.boostEntry then setMode .boost (some s.boostTime) s
  else if s.refreshEntry then setMode .refresh (some s.boostTime) s
  else s

/-- The charge evaluation (R44). -/
def chargeEval (s : State) : State := recompute (entryStep (rearmStep (taperExitStep s)))

/-- A REFRESH ends with the supply (R47). -/
def endRefresh (s : State) : State := if s.cc.mode = .refresh then setMode .float none s else s

/-- A change of the supply source at the CC (R47). -/
def ccSourceChange (s : State) : State :=
  match s.sc.source with
  | .none => endRefresh (s.withCc { s.cc with armed := true })
  | .mains => s.withCc { s.cc with refreshDone := false }
  | .generator =>
    let t := endRefresh s
    if t.cc.mode = .float ∧ t.lowestSoc < t.cfg .recoverPm then setMode .boost (some t.boostTime) t else t

/-- Whether the boost timer ends the mode at a minute event taken now (R48). -/
def boostTimerDue (s : State) : Bool :=
  s.cc.mode.boosts && s.sc.source != .none && s.cc.boostRemaining.getD 0 ≤ 1

/-- The boost timer at a minute event (R48). -/
def boostTimerStep (s : State) : State :=
  if boostTimerDue s then endBoost s
  else if s.cc.mode.boosts ∧ s.sc.source ≠ .none then
    s.withCc { s.cc with boostRemaining := s.cc.boostRemaining.map (· - 1) }
  else s

/-- A BOOST asked for by a port or by the schedule, for a number of minutes (R51, R52); none in RESTRICTED. -/
def askBoost (minutes : Nat) (s : State) : Option State :=
  match s.cc.mode with
  | .restricted => none
  | .boost => some (s.withCc { s.cc with boostRemaining := some minutes, taperExit := 0 })
  | .float | .refresh => some (setMode .boost (some minutes) s)

/-- FLOAT asked for by a port (R51); none in RESTRICTED. -/
def askFloat (s : State) : Option State :=
  if s.cc.mode = .restricted then none else some (endBoost s)

/-- Whether the restriction set is empty. -/
def Restriction.isEmpty (r : Restriction) : Bool := !r.thermal && !r.tempA && !r.tempB

/-- The restriction set after a detector joins or leaves it (R50). -/
def Restriction.set (d : Fin 32) (on : Bool) (r : Restriction) : Restriction :=
  match d.val with
  | 4 => { r with tempA := on }
  | 5 => { r with tempB := on }
  | 6 => { r with thermal := on }
  | _ => r

/-- A restricting action comes into force or ends (R50). -/
def restrict (d : Fin 32) (on : Bool) (s : State) : State :=
  let r := s.cc.restriction.set d on
  let t := s.withCc { s.cc with restriction := r }
  if s.cc.restriction.isEmpty ∧ !r.isEmpty then setMode .restricted none t
  else if !s.cc.restriction.isEmpty ∧ r.isEmpty then setMode .float none t
  else t

/-- The charge record at start-up (R59). -/
def startCc (t : Settings) (hasB : Bool) : Cc :=
  formResults t hasB 250 ⟨.float, none, 0, true, false, ⟨false, false, false⟩, 250, 0, 0, none, 0⟩

/-- The CC's warm restart (R60); its demand evaluation is the RC's own at the same restart (R98). -/
def ccWarm (s : State) : State :=
  let t := recompute (s.withCc { s.cc with
    mode := .float, boostRemaining := none, taperExit := 0, armed := true, refreshDone := false, restriction := ⟨false, false, false⟩ })
  if s.cc.mode = .float then t else raiseAll .chargeMode t

end Sys2Proof.Machine
end

