-- ==== Sys2Proof/Machine/Marks.lean ====
section
/-! DEFINITION. Slot marks of the module detectors and the rest and retire actions (R92, R144, R146). -/

namespace Sys2Proof.Machine

/-- Detector 13, MODULE-FAULT (R143). -/
def idFault : Fin 32 := 13
/-- Detector 14, MODULE-MISMATCH (R143). -/
def idMismatch : Fin 32 := 14
/-- Detector 15, MODULE-LOST (R143). -/
def idLost : Fin 32 := 15

/-- The set that holds one slot (R177). -/
def slotBit (k : Slot) : SlotSet := BitVec.ofNat 12 (2 ^ k.val)

/-- Whether a slot is marked under a detector (R142). -/
def State.marked (s : State) (d : Fin 32) (k : Slot) : Bool := (s.det d).marks.getLsbD k.val

/-- A new occurrence (R144): first-active time, unseen flags, DETECTOR-CHANGE. -/
def newOccurrence (d : Fin 32) (s : State) : State :=
  raiseAll .detectorChange (s.setDet d { s.det d with first := s.plantTime, unseen := ⟨true, true, true⟩ })

/-- A module enters a service state and the RC evaluates the demand (R79, R81). -/
def moveModule (k : Slot) (st : Service) (s : State) : State :=
  if (s.mod k).service = st then s else demandEval (setService k st s)

/-- The rest action on a slot (R92). -/
def restSlot (k : Slot) (s : State) : State :=
  match (s.mod k).service with
  | .standby | .starting | .running | .stopping => moveModule k .resting s
  | _ => s

/-- The retire action on a slot (R92), with the cause it records. -/
def retireSlot (cause : RetireCause) (k : Slot) (s : State) : State :=
  match (s.mod k).service with
  | .standby | .starting | .running | .stopping | .resting =>
    let t := setService k .retired s
    demandEval (t.setMod k { t.mod k with retireCause := some cause })
  | _ => s

/-- The retire cause a module detector records (R80). -/
def causeOf (d : Fin 32) : RetireCause := if d = idFault then .moduleFault else .moduleMismatch

/-- The action of detector 13 or 14 handed to the RC for a slot: rest under RECOVER, retire under LATCH (R145, R146). -/
def handSlot (d : Fin 32) (k : Slot) (s : State) : State :=
  match (s.detCfg d).cls with
  | .recover => restSlot k s
  | .latch => retireSlot (causeOf d) k s
  | _ => s

/-- The action of detector 13 or 14 handed to the RC for every marked slot (R146), slot 0 first, with the demand evaluation of each change made
before the next slot is taken: the model's choice, by which a marked STANDBY module may be started before its own turn (R81,
notes/assumptions/43.md). -/
def handMarked (d : Fin 32) (s : State) : State := forSlots (fun k x => if x.marked d k then handSlot d k x else x) s

/-- A slot mark is set (R146): a new occurrence while the detector is ACTIVE or LATCHED, and the action when it is in force. -/
def setMark (d : Fin 32) (k : Slot) (s : State) : State :=
  if s.marked d k then s
  else
    let e := s.det d
    let t := s.setDet d { e with marks := e.marks ||| slotBit k }
    let u := if e.state = .active ∨ e.state = .latched then newOccurrence d t else t
    if u.actionOf d then handSlot d k u else u

/-- A slot mark is cleared (R146). -/
def clearMark (d : Fin 32) (k : Slot) (s : State) : State :=
  s.setDet d { s.det d with marks := (s.det d).marks &&& ~~~slotBit k }

/-- A slot mark is cleared when the detector's class is one of those given. -/
def clearMarkUnder (cls : DetClass → Bool) (d : Fin 32) (k : Slot) (s : State) : State :=
  if cls (s.detCfg d).cls then clearMark d k s else s

/-- Class NOTE or ALARM. -/
def DetClass.isPassive : DetClass → Bool
  | .note | .alarm => true
  | _ => false

/-- Class RECOVER. -/
def DetClass.isRecover : DetClass → Bool
  | .recover => true
  | _ => false

/-- A slot released (R94, R146): its marks under 13 and 14 are cleared whatever the class. -/
def releasedMarks (k : Slot) (s : State) : State := clearMark idMismatch k (clearMark idFault k s)

/-- The standing actions of 13 and 14 on a slot that enters STANDBY from HELD, LOST or ABSENT (R92), that of 13 first: the model's choice, by which
a slot that both retire keeps the cause 13 (notes/assumptions/43.md). -/
def standingActions (k : Slot) (s : State) : State :=
  let act (d : Fin 32) (x : State) : State := if x.actionOf d && x.marked d k then handSlot d k x else x
  act idMismatch (act idFault s)

/-- A module enters STANDBY, with what follows from the state it comes from (R92, R146), without the demand evaluation it causes. -/
def placeStandby (k : Slot) (s : State) : State :=
  let t := setService k .standby s
  match (s.mod k).service with
  | .held | .lost | .absent => standingActions k t
  | .resting => clearMarkUnder DetClass.isRecover idMismatch k (clearMarkUnder DetClass.isRecover idFault k t)
  | _ => t

/-- A module enters STANDBY, with the demand evaluation this causes (R81). -/
def enterStandby (k : Slot) (s : State) : State := demandEval (placeStandby k s)

end Sys2Proof.Machine
end

