-- ==== Sys2Proof/Machine/Modules.lean ====
section
/-! DEFINITION. The Rotation Controller's events (spec 05_demand_walk_in_and_rotation.md): replies, losses, the RC's second, holds, the round
result, restarts. -/

namespace Sys2Proof.Machine

/-! ### Replies and losses (R88, R90) -/

/-- The mark handed with a good reply (R69), but for those of the discovery round. -/
inductive ReplyMark where
  | plain | firstAnswer | returned
  deriving DecidableEq, Repr

/-- A reply's confirmation of a start or a stop (R88), without the demand evaluation it causes. -/
def confirmReply (k : Slot) (p : Reply) (s : State) : State :=
  let m := s.mod k
  match m.service with
  | .starting => if p.out.isOn then clearMarkUnder DetClass.isPassive idMismatch k (setService k .running s) else s
  | .running =>
    if p.out.isOn then s.setMod k { m with dropout := none }
    else if p.out = .off then s.setMod k { m with dropout := some (m.dropout.getD 0) }
    else s
  | .stopping =>
    if p.out = .off ∨ (p.out = .fault ∧ p.code = 1) then
      clearMarkUnder DetClass.isPassive idMismatch k (setService k .standby s)
    else s
  | _ => s

/-- Whether a good reply is judged a fault (R88). -/
def State.judgedFault (s : State) (k : Slot) (p : Reply) : Bool :=
  p.out == .fault && (p.code != 1 || (s.sc.source != .none && s.command k == .run))

/-- A good reply judged for a module fault (R88). -/
def judgeFault (k : Slot) (p : Reply) (s : State) : State :=
  if s.judgedFault k p then setMark idFault k (s.setMod k { s.mod k with fault := some p.code })
  else clearMarkUnder DetClass.isPassive idFault k (s.setMod k { s.mod k with fault := none })

/-- What a good reply does to the service state, without the demand evaluation it causes: a mark that gives STANDBY is taken first and the
reply then confirms nothing, whatever its output state (R75, R90); any other reply is taken as an ordinary one (R88). -/
def takeReplyMark (k : Slot) (mark : ReplyMark) (p : Reply) (s : State) : State :=
  match mark, (s.mod k).service with
  | .returned, .lost | .firstAnswer, .absent => placeStandby k s
  | _, _ => confirmReply k p s

/-- A good reply at the RC (R88, R90): the service state, then the fault judged in that state, then the demand evaluation of a change (R81), an
order that is the model's choice (notes/assumptions/53.md). -/
def takeReply (k : Slot) (mark : ReplyMark) (p : Reply) (s : State) : State :=
  let t := takeReplyMark k mark p s
  let u := judgeFault k p t
  if (t.mod k).service = (s.mod k).service then u else demandEval u

/-- A slot handed to the RC as lost (R90). -/
def takeLost (k : Slot) (s : State) : State :=
  match (s.mod k).service with
  | .standby | .starting | .running | .stopping | .resting => moveModule k .lost s
  | _ => s

/-! ### The RC's second (R80, R89, R92) -/

/-- What counts at every RC second (R80). -/
def rcCount (s : State) : State :=
  s.withRc { s.rc with
    mods := vmap (fun m => { m with timeIn := bump 65535 m.timeIn, dropout := m.dropout.map (· + 1) }) s.rc.mods
    walkTimer := s.rc.walkTimer.map (· - 1)
    removal := s.rc.removal.map (· + 1) }

/-- The start window of a slot expires now (R89). -/
def startWindowDue (k : Slot) (s : State) : Bool :=
  (s.mod k).service == .starting && s.cfg .startWindowS ≤ (s.mod k).timeIn

/-- The dropout watch of a slot expires now (R89). -/
def dropoutDue (k : Slot) (s : State) : Bool :=
  (s.mod k).service == .running && (match (s.mod k).dropout with
    | some n => s.cfg .startWindowS ≤ n
    | none => false)

/-- The stop check of a slot falls due now (R89). -/
def stopCheckDue (k : Slot) (s : State) : Bool :=
  (s.mod k).service == .stopping && (s.mod k).stopCheck && Config.stopCheckSeconds ≤ (s.mod k).timeIn

/-- The rest of a slot expires now (R92). -/
def restDue (k : Slot) (s : State) : Bool :=
  (s.mod k).service == .resting && s.cfg .recoverWait * 60 ≤ (s.mod k).timeIn

/-- A start mismatch or a run dropout (R89): STANDBY with the skip mark set, and a MODULE-MISMATCH report. The report, with the rest or retire it
may bring (R92), comes before the demand evaluation of the change (R81): the model's choice (notes/assumptions/53.md). -/
def startMismatch (k : Slot) (s : State) : State :=
  let t := setService k .standby s
  demandEval (setMark idMismatch k (t.setMod k { t.mod k with skip := true }))

/-- The stop check of a slot (R89). -/
def checkStop (k : Slot) (s : State) : State :=
  let t := s.setMod k { s.mod k with stopCheck := false }
  if (s.presentOutput k).elim false OutState.isOn then setMark idMismatch k t else t

/-- The end of a rest (R92). -/
def endRest (k : Slot) (s : State) : State :=
  if (s.mod k).fault.isNone then enterStandby k s else s.setMod k { s.mod k with timeIn := 0 }

/-- What expires for one slot at an RC second (notes/assumptions/18.md). -/
def slotSecond (k : Slot) (s : State) : State :=
  if startWindowDue k s then startMismatch k s
  else if stopCheckDue k s then checkStop k s
  else if dropoutDue k s then startMismatch k s
  else if restDue k s then endRest k s
  else s

/-- The slots below `n` taken in turn at an RC second. -/
def slotSeconds (n : Nat) (s : State) : State :=
  ((List.finRange 12).filter fun k => k.val < n).foldl (fun x k => slotSecond k x) s

/-- The removal hold expires now (R86). -/
def removalDue (s : State) : Bool :=
  match s.rc.removal with
  | some n => s.cfg .removeHoldMin * 60 ≤ n
  | none => false

/-- The expiry of the removal hold (R86). -/
def removalExpiry (s : State) : State :=
  let t := match s.mostWorn (fun m => m.service == .running) with
    | some k => setService k .stopping s
    | none => s
  demandEval (t.withRc { t.rc with removal := some 0 })

/-- The walk-in timer expires now (R85). -/
def walkInDue (s : State) : Bool := s.rc.walkTimer == some 0

/-- The expiry of the walk-in timer (R85). -/
def walkInExpiry (s : State) : State :=
  match s.rc.queue with
  | k :: _ => if s.mayStart then demandEval (startModule true k s) else s.withRc { s.rc with walkTimer := none }
  | [] => s.withRc { s.rc with walkTimer := none }

/-- The RC's second as far as its slots (R80). -/
def rcSlots (s : State) : State := slotSeconds 12 (rcCount s)

/-- The RC's second as far as its removal hold (R80). -/
def rcRemoval (s : State) : State :=
  let t := rcSlots s
  if removalDue t then removalExpiry t else t

/-- The RC's second (R80, notes/assumptions/18.md). -/
def rcSecond (s : State) : State :=
  let t := rcRemoval s
  if walkInDue t then walkInExpiry t else t

/-! ### Holds and releases (R93, R94) -/

/-- Whether HOLD MODULE puts a module in HELD (R93). -/
def Service.canHold : Service → Bool
  | .standby | .starting | .running | .stopping | .resting => true
  | _ => false

/-- A module put in HELD by a port (R93). -/
def holdSlot (q : Port) (k : Slot) (s : State) : State :=
  let t := setService k .held s
  demandEval (t.setMod k { t.mod k with holdOrigin := some q })

/-- A RETIRED module released (R94): STANDBY, and its marks cleared, before the demand evaluation (notes/assumptions/53.md). -/
def releaseSlot (k : Slot) (s : State) : State := demandEval (releasedMarks k (setService k .standby s))

/-! ### The round result (R75) -/

/-- What the round found in a slot: the reply of its exchange, when that ended good (R75). -/
def State.roundReply (s : State) (k : Slot) : Option Reply := if s.isFitted k then (s.link k).lastGood else none

/-- One slot of the round result taken (R75): STANDBY, or RUNNING and, on NONE, STOPPING (R87). -/
def adoptSlot (k : Slot) (s : State) : State :=
  match s.roundReply k with
  | none => s
  | some p =>
    if p.out.isOn then
      let t := setService k .running s
      if t.sc.source = .none then setService k .stopping t else t
    else enterStandby k s

/-- One slot of the round result judged for a fault (R88). -/
def judgeRound (k : Slot) (s : State) : State :=
  match s.roundReply k with
  | none => s
  | some p => judgeFault k p s

/-- The round result taken by the RC (R75, R97): start-up step 4 ends, and the first demand evaluation is made, after
the judging (notes/assumptions/53.md). -/
def takeRound (s : State) : State :=
  let t := (forSlots adoptSlot s).withStartStep .running
  demandEval (forSlots judgeRound t)

/-! ### Restarts (R97, R98) -/

/-- The RC at start-up (R97), given the settings, the setpoint and the run minutes handed on. -/
def startRc (t : Settings) (setpoint : Nat) (minutes : Option (Vector Nat 12)) : Rc where
  mods := vgen fun k => Module.initial (match minutes with
    | some v => v[k]
    | none => 0) setpoint (t.val .modRating / 10)
  nNeed := 0
  rawNeed := t.val .minRunModules
  capShort := false
  queue := []
  walkTimer := none
  removal := none
  rotation := t.val .rotateH * 60
  swap := none
  shut := false

/-- A module at the RC's warm restart (R98). The stop check of every STOPPING module falls due again, one made before the restart too: the model's
choice between R98 and R89 (notes/assumptions/57.md). -/
def Module.warm (m : Module) : Module :=
  { m with
    timeIn := 0
    dropout := m.dropout.map fun _ => 0
    stopCheck := m.service == .stopping }

/-- The RC's warm restart, up to the GEN_CAP test (R98). Shelf shut stands until the DU's stage (notes/assumptions/19.md). -/
def rcWarm (s : State) : State :=
  let t := forSlots (fun k x => if (x.mod k).service = .starting then placeService k .standby x else x) s
  t.withRc { t.rc with
    mods := vmap Module.warm t.rc.mods
    queue := []
    walkTimer := none
    removal := none
    swap := none
    rotation := t.cfg .rotateH * 60 }

/-- The RC's GEN_CAP test and demand evaluation of a warm restart (R98, R172 stage 3). -/
def rcWarmEnd (s : State) : State := demandEval (capTest s)

end Sys2Proof.Machine
end

