-- ==== Sys2Proof/Machine/Requests.lean ====
section
/-! DEFINITION. The Request Unit (spec 07_run_requests_the_schedule_and_the_fuel_account.md): run requests, indications, the schedule, the fuel
account. -/

namespace Sys2Proof.Machine

/-! ### Serviceable records and indications (R128, R129, R130) -/

/-- Whether a minute of day lies in the run window (R128). -/
def inRunWindow (start stop minute : Nat) : Bool :=
  if start < stop then start ≤ minute && minute < stop
  else if stop < start then start ≤ minute || minute < stop
  else false

/-- Whether an origin is a port. -/
def isPort : Origin → Bool
  | .port _ => true
  | _ => false

/-- Whether a record is serviceable now (R128). -/
def State.serviceableNow (s : State) (r : RunReq) : Bool :=
  (s.cfg .genMode == 2 || (s.cfg .genMode == 1 && isPort r.origin)) &&
  (r.cls != .deferrable || (s.clk.isSet && inRunWindow (s.cfg .windowStart) (s.cfg .windowEnd) s.clk.minute)) &&
  (!s.rqu.exhausted && (!s.rqu.reserve || r.cls == .critical)) &&
  s.sc.seq.state != .lockedOut

/-- Whether the sequence is in WARM-UP or ON-LOAD (R124, R129). -/
def SeqState.serves : SeqState → Bool
  | .warmUp | .onLoad => true
  | _ => false

/-- Steps 3 and 4 of R124 for one record. -/
def State.markRecord (s : State) (r : RunReq) : RunReq :=
  let can := s.serviceableNow r
  { r with serviceable := can, isServed := r.isServed || (can && s.sc.seq.state.serves) }

/-- Whether a record counts for the indications (R130). -/
def RunReq.counts (r : RunReq) : Bool := r.isServed || r.serviceable

/-- The indications of R130 over a collection. -/
def formIndications (l : List RunReq) : Indications where
  start := l.any fun r => r.serviceable
  mainsFail := l.any fun r => r.reason == .mainsFail && r.counts
  others := l.any fun r => r.reason != .mainsFail && r.onLoad && r.counts
  idle := l.any fun r => !r.onLoad && r.counts

/-- Steps 3, 4 and 5 of R124. -/
def refreshRequests (s : State) : State :=
  let l := s.rqu.reqs.map s.markRecord
  s.withRqu { s.rqu with reqs := l, ind := formIndications l }

/-- The rank of a class, highest first (R128). -/
def ReqClass.rank : ReqClass → Nat
  | .critical => 0
  | .normal => 1
  | .deferrable => 2

/-- The top serviceable request and its position (R128): the oldest of highest class, with positions that count from `n`. -/
def topFrom (n : Nat) : List RunReq → Option (Nat × RunReq)
  | [] => none
  | r :: rest =>
    match topFrom (n + 1) rest with
    | some (m, x) => if r.serviceable && r.cls.rank ≤ x.cls.rank then some (n, r) else some (m, x)
    | none => if r.serviceable then some (n, r) else none

/-- The position of the top serviceable request (R128, R131), counted from 0: the model's choice (notes/assumptions/50.md). -/
def topServiceable (l : List RunReq) : Option Nat := (topFrom 0 l).map Prod.fst

/-! ### The collection (R123, R125, R126, R127) -/

/-- Whether a record is the one of a pair (R123). -/
def RunReq.isPair (reason : Reason) (o : Origin) (r : RunReq) : Bool := r.reason == reason && r.origin == o

/-- A record created, or the one of its pair updated (R123). -/
def createRecord (reason : Reason) (o : Origin) (cls : ReqClass) (onLoad : Bool) (minutes : Option Nat) (s : State) : State :=
  let l := s.rqu.reqs
  if l.any (RunReq.isPair reason o) then
    s.withRqu { s.rqu with
      reqs := l.map fun r => if r.isPair reason o then { r with cls := cls, onLoad := onLoad, minMinutes := minutes } else r }
  else s.withRqu { s.rqu with reqs := l ++ [⟨reason, o, cls, onLoad, minutes, 0, s.plantTime, false, false⟩] }

/-- The records of a reason leave the collection. -/
def removeReason (reason : Reason) (s : State) : State :=
  s.withRqu { s.rqu with reqs := s.rqu.reqs.filter fun r => r.reason != reason }

/-- Steps 3 to 5 of R124 when an operation has changed the collection. -/
def refreshIfChanged (before after : State) : State :=
  if after.rqu.reqs = before.rqu.reqs then after else refreshRequests after

/-- The MAINS-FAIL record created (R125). -/
def createMainsFail (s : State) : State :=
  refreshIfChanged s (createRecord .mainsFail .internal .normal true none s)

/-- The MAINS-FAIL record completed (R125). -/
def completeMainsFail (s : State) : State := refreshIfChanged s (removeReason .mainsFail s)

/-- The outage timer started (R125): with OUTAGE_DELAY_MIN 0 the record is created at once (notes/assumptions/5.md). -/
def startOutage (s : State) : State :=
  if s.cfg .outageDelayMin = 0 then createMainsFail (s.withRqu { s.rqu with outage := none })
  else s.withRqu { s.rqu with outage := some (s.cfg .outageDelayMin * 60) }

/-- The outage timer cancelled (R125). -/
def cancelOutage (s : State) : State := s.withRqu { s.rqu with outage := none }

/-- Whether the outage timer expires at a completion taken now (R125, notes/assumptions/5.md). -/
def outageDue (s : State) : Bool :=
  match s.rqu.outage with
  | some n => n ≤ 1
  | none => false

/-- The outage timer at a measurement completion (R125, notes/assumptions/5.md). -/
def outageSecond (s : State) : State :=
  if outageDue s then createMainsFail (cancelOutage s)
  else s.withRqu { s.rqu with outage := s.rqu.outage.map (· - 1) }

/-- A change of the supply source at the RQU (R125). -/
def rquSourceChange (s : State) : State :=
  match s.sc.source with
  | .none => startOutage s
  | .mains => completeMainsFail (cancelOutage s)
  | .generator => cancelOutage s

/-- A mains return handed to the RQU with the sequence state (R103, R125). -/
def rquMainsReturn (s : State) : State :=
  match s.sc.seq.state with
  | .preStart | .cranking | .crankRest | .warmUp => completeMainsFail s
  | _ => s

/-- A new sequence state handed to the RQU (R108, R129). -/
def rquSeqTaken (s : State) : State :=
  match s.sc.seq.state with
  | .off | .lockedOut | .crankRest =>
    refreshRequests (s.withRqu { s.rqu with reqs := s.rqu.reqs.map fun r => { r with isServed := false } })
  | _ => refreshRequests s

/-- Whether the battery is in danger (R126). -/
def State.batteryDanger (s : State) : Bool :=
  s.lowestSoc ≤ s.cfg .lowPm || s.accounts.any fun a => a.runtime != 65535 && a.runtime ≤ s.cfg .runtimeLow

/-- The class of a BATTERY-LOW record (R126). -/
def State.batteryClass (s : State) : ReqClass := if s.lowestSoc ≤ s.cfg .critPm then .critical else .normal

/-- Whether a BATTERY-LOW record completes at an evaluation made now (R126). -/
def State.batteryRecovered (s : State) : Bool :=
  s.cfg .recoverPm ≤ s.lowestSoc || (s.sc.source == .mains && (match s.sc.seq.state with
    | .off | .stopping | .lockedOut => true
    | _ => false))

/-- BATTERY-LOW at a request evaluation: creation, update of class and completion (R126). -/
def batteryStep (s : State) : State :=
  let t := if s.sc.source = .none ∧ s.batteryDanger then createRecord .batteryLow .internal s.batteryClass true none s else s
  if t.batteryRecovered then removeReason .batteryLow t else t

/-- The request evaluation (R124, R136). -/
def requestEval (s : State) : State :=
  let t := batteryStep (formFuelIndications s)
  refreshRequests (if t.sc.source = .mains then removeReason .mainsFail t else t)

/-! ### Served minutes (R129) -/

/-- Whether a record completes by its served minutes (R127, R129). -/
def RunReq.isComplete (r : RunReq) : Bool :=
  (r.reason == .exercise || r.reason == .portRun) && (match r.minMinutes with
    | some m => m ≤ r.served
    | none => false)

/-- The served minutes of a SERVED record increase by 1 (R129). -/
def RunReq.countMinute (r : RunReq) : RunReq := if r.isServed then { r with served := bump 65535 r.served } else r

/-- REQUEST-DONE for a completed PORT-RUN record (R127). -/
def raiseDone (r : RunReq) (s : State) : State :=
  match r.reason, r.origin with
  | .portRun, .port q => raiseTo q .requestDone s
  | _, _ => s

/-- Step 3 of R139: served minutes and completions. -/
def servedStep (s : State) : State :=
  let l := s.rqu.reqs.map RunReq.countMinute
  let t := (l.filter RunReq.isComplete).foldl (fun x r => raiseDone r x) s
  t.withRqu { t.rqu with reqs := l.filter fun r => !r.isComplete }

/-! ### The schedule (R132, R133) -/

/-- A plant time as a count of minutes from day 0 minute 0. -/
def PlantTime.abs (p : PlantTime) : Nat := p.day * 1440 + p.minute

/-- The plant time a count of minutes stands for. -/
def plantTimeOf (n : Nat) : PlantTime := ⟨n / 1440, n % 1440⟩

/-- The last plant time: day 65,535 minute 1439. -/
def lastPlantTime : Nat := 65535 * 1440 + 1439

/-- An entry joins the schedule after every entry due at or before its own due time (R132). -/
def insertEntry (e : SchedEntry) : List SchedEntry → List SchedEntry
  | [] => [e]
  | x :: rest => if x.due.abs ≤ e.due.abs then x :: insertEntry e rest else e :: x :: rest

/-- Whether an entry of a kind stands at a due time (R132). -/
def hasEntry (kind : SchedKind) (due : PlantTime) (l : List SchedEntry) : Bool := l.any fun e => e.kind == kind && e.due == due

/-- The first due time of a repeating entry that lies after now (R133, step 4). -/
def nextDue (due interval now : Nat) : Nat := due + ((now - due) / interval + 1) * interval

/-- A repeating entry put back into a schedule, or dropped (R133, step 4). -/
def putBack (e : SchedEntry) (now : Nat) (l : List SchedEntry) : List SchedEntry :=
  let n := nextDue e.due.abs e.interval now
  if e.interval = 0 ∨ lastPlantTime < n ∨ hasEntry e.kind (plantTimeOf n) l then l
  else insertEntry { e with due := plantTimeOf n } l

/-- What an entry does by its kind (R133, step 2). -/
def actEntry (e : SchedEntry) (s : State) : State :=
  match e.kind with
  | .exercise => createRecord .exercise .schedule .deferrable (s.cfg .exerciseOnLoad == 1) e.duration s
  | .boostCharge => (askBoost (e.duration.getD 0) s).getD s
  | .rotate => rotationEvent s

/-- SCHEDULE-DONE with its detail (R133, step 3; R163). -/
def raiseScheduleDone (e : SchedEntry) (s : State) : State :=
  if e.notify then raiseTo e.origin .scheduleDone (s.onPort e.origin fun p => { p with schedDone := some (e.kind, e.due) }) else s

/-- The head entry taken (R133), the rest of the schedule given. -/
def takeEntry (e : SchedEntry) (rest : List SchedEntry) (now : Nat) (s : State) : State :=
  let t := raiseScheduleDone e (actEntry e (s.withRqu { s.rqu with schedule := rest }))
  t.withRqu { t.rqu with schedule := putBack e now t.rqu.schedule }

/-- The due entries taken one after another, at most `n` of them (R133). -/
def takeDue : Nat → Nat → State → State
  | 0, _, s => s
  | n + 1, now, s =>
    match s.rqu.schedule with
    | [] => s
    | e :: rest => if e.due.abs ≤ now then takeDue n now (takeEntry e rest now s) else s

/-- Step 4 of R139: the entries due at or before now, if the clock is set. -/
def scheduleStep (s : State) : State :=
  if s.clk.isSet then takeDue s.rqu.schedule.length (PlantTime.abs ⟨s.clk.day, s.clk.minute⟩) s else s

/-! ### The fuel account (R135, R137) -/

/-- The burn rate in 0.1 L per hour (R135, step 1). -/
def State.burnRateNow (s : State) : Nat :=
  let n := if s.sc.seq.state = .onLoad then min s.runningCount (s.cfg .genCap) else 0
  s.cfg .burnIdle + (s.cfg .burnFull - s.cfg .burnIdle) * n / s.cfg .genCap

/-- Step 1 of R139: the burn, while the engine running level is present (R135). -/
def burnStep (s : State) : State :=
  if s.running = some true then
    let rate := s.burnRateNow
    let sum := s.rqu.residue + rate
    s.withRqu { s.rqu with fuel := s.rqu.fuel - sum / 60, residue := sum % 60, burnRate := rate }
  else s

/-- The fuel level a reconcile may use at a minute event (R137): the engine running level absent and the record VALID or HELD. -/
def State.reconcileLevel (s : State) : Option Nat :=
  if s.running = some false then (s.analog chFuel).usable.map Int.toNat else none

/-- Whether a reconcile is made at a minute event taken now (R137). -/
def reconcileNow (s : State) : Bool :=
  s.reconcileLevel.isSome && (s.rqu.reconcileDue || s.rqu.reconcileCount + 1 ≥ 15)

/-- Whether a sensor figure shows a refuel (R137, step 2). -/
def State.isRefuel (s : State) (figure : Nat) : Bool :=
  match s.rqu.lastReading with
  | some x => x + s.cfg .tankL * s.cfg .refuelStepPct / 10 < figure
  | none => false

/-- Whether F has drifted from a sensor figure (R137, step 3). -/
def State.hasDrifted (s : State) (figure : Nat) : Bool := s.cfg .reconcileL * 10 < ((s.rqu.fuel : Int) - figure).natAbs

/-- A reconcile against a fuel level in 0.1 % (R137). -/
def reconcileWith (level : Nat) (s : State) : State :=
  let figure := level * s.cfg .tankL / 100
  let fuel := if s.isRefuel figure || s.hasDrifted figure then figure else s.rqu.fuel
  let t := s.withRqu { s.rqu with fuel := fuel, reconcileCount := 0, reconcileDue := false, lastReading := some figure }
  if s.isRefuel figure then raiseAll .refuel t else t

/-- Step 2 of R139: the reconcile count and any reconcile (R137). -/
def reconcileStep (s : State) : State :=
  match s.reconcileLevel with
  | none => s.withRqu { s.rqu with reconcileCount := 0 }
  | some level =>
    if reconcileNow s then reconcileWith level s else s.withRqu { s.rqu with reconcileCount := s.rqu.reconcileCount + 1 }

/-- The RQU's minute work (R139). -/
def rquMinute (s : State) : State :=
  refreshRequests (scheduleStep (servedStep (formFuelIndications (reconcileStep (burnStep s)))))

/-- F set by a port (R138). -/
def setFuel (f : Nat) (s : State) : State :=
  refreshRequests (formFuelIndications (s.withRqu { s.rqu with fuel := f, residue := 0 }))

/-- A write of TANK_L brings F down to the tank when F lies above it (R135). -/
def clampFuel (s : State) : State :=
  if s.cfg .tankL * 10 < s.rqu.fuel then
    refreshRequests (formFuelIndications (s.withRqu { s.rqu with fuel := s.cfg .tankL * 10 }))
  else s

/-! ### Restarts (R140, R141) -/

/-- The RQU at start-up (R140), from the settings, the loaded schedule and the checkpoint; the outage timer is started at safe outputs. -/
def startRqu (t : Settings) (schedule : List SchedEntry) (c : Option Ckpt) : Rqu where
  reqs := []
  ind := .nothing
  outage := none
  schedule := schedule
  fuel := match c with
    | some x => min x.fuel (t.val .tankL * 10)
    | none => 0
  residue := match c with
    | some x => x.fuelResidue
    | none => 0
  reserve := false
  exhausted := false
  burnRate := 0
  reconcileCount := 0
  reconcileDue := true
  lastReading := none

/-- The RQU's warm restart up to the adoption (R141). -/
def rquWarm (s : State) : State :=
  cancelOutage (s.withRqu { s.rqu with reqs := s.rqu.reqs.map fun r => { r with isServed := false } })

/-- The RQU takes the adopted sequence state (R141, R172 stage 3). -/
def rquWarmEnd (s : State) : State :=
  let t := rquSeqTaken s
  if t.sc.source = .none then startOutage t else t

end Sys2Proof.Machine
end

