-- ==== Sys2Proof/Machine/Supply.lean ====
section
/-! DEFINITION. The Supply Controller (spec 06_supply_transfer_and_the_generator_sequence.md): mains qualification, contactors and transfers,
the generator sequence. -/

namespace Sys2Proof.Machine

/-! ### Source and contactors (R100, R103) -/

/-- The source formed afresh (R100); a change goes to the CC, the RC and the RQU in that order. -/
def refreshSource (s : State) : State :=
  if s.formedSource = s.sc.source then s
  else rquSourceChange (rcSourceChange (ccSourceChange (raiseAll .supplyChange
    (s.withSc { s.sc with source := s.formedSource }))))

/-- The record of a contactor replaced. -/
def Sc.setContactor (c : Sc) (k : Contactor) (r : ContactorRec) : Sc :=
  match k with
  | .mc => { c with mc := r }
  | .gc => { c with gc := r }

/-- A contactor commanded CLOSED or OPEN (R99, R100); nothing when that is its command. -/
def commandContactor (k : Contactor) (closed : Bool) (s : State) : State :=
  let r := s.sc.contactor k
  if r.closed = closed then s
  else refreshSource (s.withSc (s.sc.setContactor k { r with closed := closed, age := 0 }))

/-- The contactor a transfer closes (R106). -/
def Direction.closing : Direction → Contactor
  | .toMains => .mc
  | .toGenerator => .gc

/-- The contactor a transfer leaves (R106). -/
def Direction.opening : Direction → Contactor
  | .toMains => .gc
  | .toGenerator => .mc

/-- The source of a transfer's closing contactor (R106). -/
def Direction.target : Direction → Source
  | .toMains => .mains
  | .toGenerator => .generator

/-- Whether a transfer in a direction is under way. -/
def Sc.transferring (c : Sc) (d : Direction) : Bool :=
  match c.transfer with
  | some (x, _) => x == d
  | none => false

/-- The open time of a contactor's auxiliary input as far as the time since the latest evaluation is known (R99, notes/assumptions/6.md). -/
def State.openFor (s : State) (k : Contactor) : Option Nat := (s.sc.contactor k).openMs.map (· + s.sc.sinceEval)

/-- The milliseconds since the latest supply evaluation told by a command (notes/assumptions/6.md); time does not go back. -/
def tellTime (ms : Nat) (s : State) : State := s.withSc { s.sc with sinceEval := max s.sc.sinceEval ms }

/-- Whether the BREAK phase may end now (R106, R107). -/
def State.breakDone (s : State) : Bool :=
  match s.sc.transfer with
  | some (d, .brk) =>
    !s.sc.inhibit && !(s.sc.contactor d.opening).closed && (match s.openFor d.opening with
      | some n => s.cfg .breakMs ≤ n
      | none => false)
  | _ => false

/-- The end of the BREAK phase, when it may end (R106): the closing contactor is commanded CLOSED. -/
def endBreak (s : State) : State :=
  if s.breakDone then
    match s.sc.transfer with
    | some (d, _) => commandContactor d.closing true (s.withSc { s.sc with transfer := some (d, .mk) })
    | none => s
  else s

/-- A transfer begins (R106), abandoning another; its BREAK phase may end at once. -/
def beginTransfer (d : Direction) (s : State) : State :=
  endBreak (commandContactor d.opening false (s.withSc { s.sc with transfer := some (d, .brk) }))

/-- A transfer TO-GENERATOR is abandoned and GC is opened (R106, R116, R117, R119). -/
def dropGenerator (s : State) : State :=
  commandContactor .gc false
    (if s.sc.transferring .toGenerator then s.withSc { s.sc with transfer := none } else s)

/-! ### The sequence's states (R108) -/

/-- Whether an entry to a state ends the minimum run (R113). -/
def SeqState.endsMinimumRun : SeqState → Bool
  | .coolDown | .stopping | .lockedOut | .off => true
  | _ => false

/-- The sequence record at an entry to a state (R108), given the engine running level (notes/assumptions/16.md). Warm-up done and off-load keep their
last values once WARM-UP is left: the model's choice (notes/assumptions/32.md). So is the qualify wait of 0 at every entry, load being called or not
(notes/assumptions/55.md). -/
def Seq.enter (st : SeqState) (level : Option Bool) (q : Seq) : Seq :=
  { q with
    state := st
    seconds := 0
    glow := st == .preStart
    crank := st == .cranking
    stop := st == .stopping || (st == .lockedOut && level != some false)
    qualWait := 0
    runSec := if st.endsMinimumRun then none else q.runSec
    minElapsed := if st.endsMinimumRun then false else q.minElapsed }

/-- The GC command at an entry to a state (R108): OPEN in every state but ON-LOAD, which a transfer enters with GC CLOSED. A transfer's MAKE
phase closes GC in WARM-UP later than its entry. Under transfer inhibit it opens GC too, where a warm restart has left it CLOSED: the model's choice
(notes/assumptions/54.md). -/
def enterGc (st : SeqState) (s : State) : State := if st = .onLoad then s else commandContactor .gc false s

/-- The sequence enters a state (R108), with the further fields the rule names: the GC command and the outputs are set, GENERATOR-STATE goes to
all ports and the RQU takes the state. -/
def enterSeq (st : SeqState) (more : Seq → Seq) (s : State) : State :=
  let t := enterGc st s
  rquSeqTaken (raiseAll .generatorState (t.withSc { t.sc with seq := more (t.sc.seq.enter st t.running) }))

/-- CRANKING entered (R111). -/
def enterCranking (s : State) : State := enterSeq .cranking (fun q => { q with attempts := q.attempts + 1 }) s

/-- LOCKED-OUT entered by a failed start (R111, R112, R116). -/
def failStart (s : State) : State := enterSeq .lockedOut (fun q => { q with failStart := true }) s

/-- WARM-UP entered (R112), with its warm-up done and off-load fields. -/
def enterWarmUp (done offLoad : Bool) (s : State) : State :=
  enterSeq .warmUp (fun q => { q with warmDone := done, offLoad := offLoad }) s

/-- OFF entered with a hold-off (R110, R115, R116). -/
def enterOff (holdOff : Nat) (s : State) : State := enterSeq .off (fun q => { q with holdOff := holdOff }) s

/-- The lock-out of R117. -/
def lockOutSet (s : State) : State := enterSeq .lockedOut id (dropGenerator s)

/-- The stall of R116. -/
def stallSet (s : State) : State :=
  let t := dropGenerator s
  let u := t.withSc { t.sc with seq := { t.sc.seq with runSec := none, minElapsed := false } }
  if u.sc.seq.state = .coolDown then enterOff (u.cfg .restS) u
  else if u.sc.seq.attempts < u.sc.seq.limit then enterSeq .crankRest id u
  else failStart u

/-! ### Indications (R109) -/

/-- The indications a supply evaluation reads: all false while GEN_MODE is DISABLED (R109). -/
def State.readIndications (s : State) : Indications := if s.cfg .genMode = 0 then .nothing else s.rqu.ind

/-- Load called (R109). -/
def State.loadCalled (s : State) : Bool := s.sc.ind.others || (s.sc.ind.mainsFail && s.sc.mains != .up)

/-- Work wanted (R109). -/
def State.workWanted (s : State) : Bool := s.loadCalled || s.sc.ind.idle

/-! ### Steps 1 to 5 of the supply evaluation (R101) -/

/-- The open time of an auxiliary at a supply evaluation (R99, notes/assumptions/6.md). -/
def openTime (level : Option Bool) (before : Option Nat) : Option Nat :=
  match level, before with
  | some false, none => some 0
  | some false, some n => some (n + 1000)
  | _, _ => none

/-- Both open times brought up to date at an evaluation, from which the milliseconds count afresh. -/
def openTimes (s : State) : State :=
  s.withSc { s.sc with
    sinceEval := 0
    mc := { s.sc.mc with openMs := openTime (s.input inMcAux).level s.sc.mc.openMs }
    gc := { s.sc.gc with openMs := openTime (s.input inGcAux).level s.sc.gc.openMs } }

/-- What becomes of the mains at an evaluation (R102): a new state and count, a mains fail, or a mains return. -/
inductive MainsVerdict where
  | move (st : MainsState) (count : Nat)
  | fail
  | comesBack
  deriving DecidableEq, Repr

/-- The return time in seconds (R102). -/
def State.returnTime (s : State) : Nat := if s.sc.startUp then 10 else s.cfg .mainsReturnMin * 60

/-- The table of R102. -/
def mainsVerdict (s : State) : MainsVerdict :=
  let n := s.sc.mainsCount + 1
  if s.sc.startUp ∧ s.startStep ≠ .running then .move .down 0
  else match s.sc.mains, s.mainsGood with
    | .down, true => .move .returning 1
    | .down, false => .move .down 0
    | .returning, true => if s.returnTime ≤ n then .comesBack else .move .returning n
    | .returning, false => .move .down 0
    | .up, true => .move .up 0
    | .up, false => if s.cfg .mainsFailS ≤ 1 then .fail else .move .failing 1
    | .failing, true => .move .up 0
    | .failing, false => if s.cfg .mainsFailS ≤ n then .fail else .move .failing n

/-- A mains fail (R103). -/
def mainsFailSteps (s : State) : State :=
  let t := s.withSc { s.sc with
    mains := .down
    mainsCount := 0
    mainsLost := true
    transfer := if s.sc.transferring .toMains then none else s.sc.transfer }
  raiseAll .supplyChange (refreshSource (commandContactor .mc false t))

/-- A mains return (R103). -/
def mainsReturnSteps (s : State) : State :=
  rquMainsReturn (raiseAll .supplyChange (s.withSc { s.sc with mains := .up, mainsCount := 0, mainsLost := false }))

/-- The mains tested and its state moved (R101 step 1, R102). -/
def mainsStep (s : State) : State :=
  match mainsVerdict s with
  | .move st n => s.withSc { s.sc with mains := st, mainsCount := n }
  | .fail => mainsFailSteps s
  | .comesBack => mainsReturnSteps s

/-- Whether the start-up period counts at an evaluation (R104). -/
def startUpCounts (s : State) : Bool := s.sc.startUp && s.startStep == .running

/-- Whether the start-up period ends at an evaluation made now (R104). -/
def startUpEnds (s : State) : Bool := startUpCounts s && s.sc.startCount + 1 ≥ Config.startUpEvaluations

/-- The start-up period at an evaluation, after the mains has been judged (R104). -/
def startUpStep (s : State) : State :=
  if startUpEnds s then
    s.withSc { s.sc with startUp := false, startCount := s.sc.startCount + 1, mainsLost := s.sc.mainsLost || s.sc.mains != .up }
  else if startUpCounts s then s.withSc { s.sc with startCount := s.sc.startCount + 1 }
  else s

/-- Step 2 of R101: the generator good count. -/
def genGoodStep (s : State) : State :=
  s.withSc { s.sc with genGood := if s.genGood then bump 65535 s.sc.genGood else 0 }

/-- Step 3 of R101: the command ages. -/
def ageStep (s : State) : State :=
  s.withSc { s.sc with
    mc := { s.sc.mc with age := bump 65535 s.sc.mc.age }
    gc := { s.sc.gc with age := bump 65535 s.sc.gc.age } }

/-- Whether a contactor is mismatched (R107), given its auxiliary's input record. -/
def isMismatched (r : ContactorRec) (aux : InputRec) : Bool :=
  2 ≤ r.age && (match aux.recent.getLast? with
    | some x => x != r.closed
    | none => false)

/-- Step 5 of R101: the contactor mismatch test (R107). -/
def mismatchStep (s : State) : State :=
  s.withSc { s.sc with
    mc := { s.sc.mc with mismatch := isMismatched s.sc.mc (s.input inMcAux) }
    gc := { s.sc.gc with mismatch := isMismatched s.sc.gc (s.input inGcAux) } }

/-- Steps 1 to 5 of the supply evaluation (R101), with the open times. -/
def supplyFront (s : State) : State :=
  mismatchStep (refreshSource (ageStep (genGoodStep (startUpStep (mainsStep (openTimes s))))))

/-! ### Step 6: the sequence -/

/-- Whether the minimum run has elapsed for given run seconds (R113). -/
def State.minRunOver (s : State) (runSec : Option Nat) : Bool :=
  match runSec with
  | some n => s.cfg .minrunMin * 60 ≤ n
  | none => false

/-- The sequence's timers advanced and the indications read (R101 step 6, R108, R109, R110, R113, R121). -/
def seqTick (s : State) : State :=
  let q := s.sc.seq
  let run := q.runSec.map (bump 65535)
  s.withSc { s.sc with
    ind := s.readIndications
    seq := { q with
      seconds := bump 65535 q.seconds
      runSec := run
      minElapsed := q.minElapsed || s.minRunOver run
      holdOff := q.holdOff - 1
      stopPulse := q.stopPulse - 1 } }

/-- Whether the stop pulse ends at an evaluation made now (R121). -/
def stopPulseEnds (s : State) : Bool := s.sc.seq.stopPulse == 1

/-- The end of the stop pulse (R121), in whatever state the sequence is by then: the model's choice for a sequence that a release has taken out of
LOCKED-OUT with the pulse still counting (notes/assumptions/52.md). -/
def stopPulseEndStep (s : State) : State :=
  if s.running = some false then s.withSc { s.sc with seq := { s.sc.seq with stop := false } }
  else s.withSc { s.sc with seq := { s.sc.seq with failStop := true } }

/-- A set that refused to stop is found stopped, in OFF or LOCKED-OUT with no pulse running (R121, notes/assumptions/34.md). -/
def foundStopped (s : State) : State :=
  let q := s.sc.seq
  if (q.state = .off ∨ q.state = .lockedOut) ∧ q.stopPulse = 0 ∧ q.failStop ∧ s.running = some false then
    s.withSc { s.sc with seq := { q with failStop := false, stop := false } }
  else s

/-- The sequence's timers, the stop pulse's end included: what step 6 does before it tests its conditions. -/
def seqTimers (s : State) : State :=
  foundStopped (if stopPulseEnds s then stopPulseEndStep (seqTick s) else seqTick s)

/-- What the sequence does at an evaluation, by the rule that names it. -/
inductive SeqMove where
  | stay | faultLockOut | stall | preStart | seenRunning | workGone | prestartOut | crankOut | restOut | warmQuit | warmOut | warmed
  | unload | requalify | coolIdle | cooldownOut | stopped | stopFails
  deriving DecidableEq, Repr

/-- Whether PRE-START may be entered (R110). -/
def State.mayPreStart (s : State) : Bool :=
  s.sc.ind.start && s.workWanted && !s.sc.startUp && s.sc.seq.holdOff == 0 && !s.sc.seq.stop &&
    s.running == some false && s.faultLevel == some false && !s.sc.lockOut

/-- A cranking state's move (R111, R119), given the time after which it runs out and what it then does. -/
def crankingMove (s : State) (time : Nat) (out : SeqMove) : SeqMove :=
  if s.running = some true then .seenRunning
  else if !s.workWanted then .workGone
  else if time ≤ s.sc.seq.seconds then out
  else .stay

/-- The move of a state, the engine having no fault and no stall (R110 to R115, R119). What is wanted is tested before a time that runs out at the same
evaluation, in COOL-DOWN too: the model's choice (notes/assumptions/17.md). -/
def stateMove (s : State) : SeqMove :=
  let q := s.sc.seq
  match q.state with
  | .off => if s.mayPreStart then .preStart else .stay
  | .preStart => crankingMove s (s.cfg .prestartS) .prestartOut
  | .cranking => crankingMove s (s.cfg .crankS) .crankOut
  | .crankRest => crankingMove s (s.cfg .restS) .restOut
  | .warmUp =>
    if q.warmDone then .warmed
    else if !s.workWanted then .warmQuit
    else if s.cfg .warmupS ≤ q.seconds then .warmOut
    else .stay
  | .onLoad => if q.minElapsed && !s.loadCalled then .unload else .stay
  | .coolDown =>
    if s.loadCalled then .requalify
    else if s.sc.ind.idle then .coolIdle
    else if s.cfg .cooldownS ≤ q.seconds then .cooldownOut
    else .stay
  | .stopping =>
    if s.running = some false then .stopped
    else if Config.stopWatchSeconds ≤ q.seconds then .stopFails
    else .stay
  | .lockedOut => .stay

/-- Whether the engine is loaded or cooling, where it can stall (R116). -/
def SeqState.turns : SeqState → Bool
  | .warmUp | .onLoad | .coolDown => true
  | _ => false

/-- Whether a present fault level locks a state out (R117). -/
def SeqState.faults : SeqState → Bool
  | .off | .lockedOut => false
  | _ => true

/-- The sequence's move at an evaluation whose timers have been advanced (notes/assumptions/17.md). -/
def seqMove (s : State) : SeqMove :=
  if s.faultLevel = some true ∧ s.sc.seq.state.faults then .faultLockOut
  else if s.running = some false ∧ s.faultLevel = some false ∧ s.sc.seq.state.turns then .stall
  else stateMove s

/-- WARM-UP with warm-up done set and load called (R112). -/
def qualifyStep (s : State) : State :=
  let q := s.sc.seq
  let t := s.withSc { s.sc with seq := { q with offLoad := false } }
  if s.sc.transferring .toGenerator || s.sc.inhibit then t
  else
    let u := s.withSc { s.sc with seq := { q with offLoad := false, qualWait := q.qualWait + 1 } }
    if s.cfg .genQualS ≤ s.sc.genGood then beginTransfer .toGenerator u
    else if Config.qualifyWaitLimit ≤ q.qualWait + 1 then failStart u
    else u

/-- WARM-UP with warm-up done set and load not called (R112, R119). A transfer TO-GENERATOR is abandoned and GC opened under transfer inhibit too,
the mains being UP or not: the model's choice where R107 keeps a CLOSED command (notes/assumptions/49.md). -/
def unloadedStep (s : State) : State :=
  let t := if s.sc.transferring .toGenerator then dropGenerator s else s
  let q := t.sc.seq
  if s.sc.ind.idle then
    let fresh := q.runSec.isNone
    t.withSc { t.sc with seq := { q with
      qualWait := 0
      offLoad := true
      runSec := some (q.runSec.getD 0)
      minElapsed := if fresh then false else q.minElapsed } }
  else if q.runSec.isNone || q.minElapsed then enterSeq .coolDown id t
  else t.withSc { t.sc with seq := { q with qualWait := 0 } }

/-- WARM-UP with warm-up done set, at an evaluation (R112). -/
def warmedStep (s : State) : State := if s.loadCalled then qualifyStep s else unloadedStep s

/-- The warm-up time runs out (R112). -/
def warmOutStep (s : State) : State := warmedStep (s.withSc { s.sc with seq := { s.sc.seq with warmDone := true } })

/-- The generator unloaded (R114). -/
def unloadStep (s : State) : State :=
  let leave (t : State) : State := if s.sc.ind.idle then enterWarmUp true true t else enterSeq .coolDown id t
  if s.sc.mains = .up then
    if s.sc.inhibit || s.sc.transfer.isSome then s else leave (beginTransfer .toMains s)
  else leave (commandContactor .gc false s)

/-- The move carried out (R110 to R119). -/
def seqAct (s : State) : State :=
  match seqMove s with
  | .stay =>
    if s.sc.seq.state = .lockedOut then s.withSc { s.sc with seq := { s.sc.seq with stop := s.running != some false } } else s
  | .faultLockOut => lockOutSet s
  | .stall => stallSet s
  | .preStart => enterSeq .preStart (fun q => { q with attempts := 0, limit := s.cfg .attempts }) s
  | .seenRunning => enterWarmUp false false s
  | .workGone => enterSeq .stopping id s
  | .prestartOut | .restOut => enterCranking s
  | .crankOut => if s.sc.seq.attempts < s.sc.seq.limit then enterSeq .crankRest id s else failStart s
  | .warmQuit => enterSeq .coolDown id s
  | .warmOut => warmOutStep s
  | .warmed => warmedStep s
  | .unload => unloadStep s
  | .requalify => warmedStep (enterWarmUp true false s)
  | .coolIdle => unloadedStep (enterWarmUp true false s)
  | .cooldownOut => enterSeq .stopping id s
  | .stopped => enterOff (s.cfg .restS) (s.withSc { s.sc with seq := { s.sc.seq with failStop := false } })
  | .stopFails => s.withSc { s.sc with seq := { s.sc.seq with failStop := true } }

/-- Whether a state was entered at this evaluation and its time is 0 (R108). -/
def State.zeroTime (s : State) (st : SeqState) (time : Setting) : Bool :=
  s.sc.seq.state == st && s.sc.seq.seconds == 0 && s.cfg time == 0

/-- Whether PRE-START's time of 0 runs out at its entry. -/
def zeroPrestart (s : State) : Bool := s.zeroTime .preStart .prestartS

/-- Whether WARM-UP's time of 0 runs out at its entry. -/
def zeroWarmup (s : State) : Bool := s.zeroTime .warmUp .warmupS && !s.sc.seq.warmDone

/-- Whether COOL-DOWN's time of 0 runs out at its entry. -/
def zeroCooldown (s : State) : Bool := s.zeroTime .coolDown .cooldownS

/-- A PRE-START of no length passes at its entry. -/
def zeroPrestartStep (s : State) : State := if zeroPrestart s then enterCranking s else s

/-- A WARM-UP of no length passes at its entry. -/
def zeroWarmupStep (s : State) : State := if zeroWarmup s then warmOutStep s else s

/-- A COOL-DOWN of no length passes at its entry. -/
def zeroCooldownStep (s : State) : State := if zeroCooldown s then enterSeq .stopping id s else s

/-- Step 6 of R101. -/
def sequenceStep (s : State) : State :=
  zeroCooldownStep (zeroWarmupStep (zeroPrestartStep (seqAct (seqTimers s))))

/-! ### Step 7: transfers (R105, R106) -/

/-- The end of the MAKE phase, when the source is that of the closing contactor (R106). -/
def makeEnd (s : State) : State :=
  match s.sc.transfer with
  | some (d, .mk) =>
    if s.sc.source = d.target then
      let t := s.withSc { s.sc with transfer := none }
      match d with
      | .toMains => t
      | .toGenerator => enterSeq .onLoad (fun q => { q with runSec := some 0, minElapsed := false }) t
    else s
  | _ => s

/-- Whether the mains closure begins a transfer (R105). -/
def State.mayClose (s : State) : Bool :=
  s.sc.mains == .up && !s.sc.mc.closed && !s.sc.gc.closed && s.sc.transfer.isNone && !s.sc.inhibit &&
    !(s.sc.seq.state == .warmUp && s.sc.seq.warmDone && s.loadCalled)

/-- Step 7 of R101. The BREAK and MAKE phases under way are tested before the mains closure, so that a transfer TO-MAINS begun here whose source
forms at once ends its MAKE phase at the next evaluation: the model's choice (notes/assumptions/46.md). -/
def transferStep (s : State) : State :=
  let t := makeEnd (endBreak s)
  if t.mayClose then beginTransfer .toMains t else t

/-- The supply evaluation (R101). -/
def supplyEval (s : State) : State := transferStep (sequenceStep (supplyFront s))

/-! ### Actions, release and restarts -/

/-- The lock-out action set or cleared (R117, R145). -/
def setLockOut (on : Bool) (s : State) : State :=
  let t := s.withSc { s.sc with lockOut := on }
  if on ∧ s.sc.seq.state ≠ .lockedOut then lockOutSet t else t

/-- Transfer inhibit set or cleared (R107, R145); a BREAK phase whose open time has run out under the inhibit ends at the clearing (R106). -/
def setInhibit (on : Bool) (s : State) : State :=
  let t := s.withSc { s.sc with inhibit := on }
  if on then t else endBreak t

/-- Whether RELEASE GENERATOR is refused (R118). -/
def State.releaseRefused (s : State) : Bool :=
  s.sc.seq.state != .lockedOut || s.faultLevel != some false || s.sc.lockOut || s.running != some false

/-- The sequence released from LOCKED-OUT (R118): the stop output goes off, and a stop pulse still counting counts on (the model's choice,
notes/assumptions/52.md). -/
def releaseSequence (s : State) : State :=
  enterSeq .off (fun q => { q with attempts := 0, failStart := false, holdOff := 0, stop := false }) s

/-- The mains state at a warm restart (R122). -/
def MainsState.warm : MainsState → MainsState
  | .up | .failing => .up
  | .down | .returning => .down

/-- The state the sequence adopts at a warm restart (R122). -/
def State.adopted (s : State) : SeqState :=
  if s.sc.seq.state = .lockedOut then .lockedOut
  else if s.running = some true then
    if s.sc.gc.closed && (s.input inGcAux).level == some true then .onLoad else .coolDown
  else .off

/-- The sequence record at a warm restart (R122). State seconds become 0 where the adopted state is the state before it too; of the fields R122 does
not name the attempt limit, fail-to-start and the indications read are kept, the others take their reset values: the model's choice
(notes/assumptions/32.md). -/
def adoptSeq (st : SeqState) (q : Seq) : Seq :=
  if st = .lockedOut then { q with stopPulse := 0 }
  else { q with
    state := st
    seconds := 0
    attempts := 0
    warmDone := false
    offLoad := false
    qualWait := 0
    runSec := if st = .onLoad then some 0 else none
    minElapsed := false
    holdOff := 0
    stopPulse := 0
    failStop := false
    glow := false
    crank := false
    stop := false }

/-- The SC's warm restart (R122, R172 stage 2, notes/assumptions/15.md). -/
def scWarm (s : State) : State :=
  let st := s.adopted
  let t := s.withSc { s.sc with
    mc := { s.sc.mc with age := 0 }
    gc := { s.sc.gc with age := 0 }
    transfer := none
    genGood := 0
    mains := s.sc.mains.warm
    mainsCount := 0
    inhibit := false
    lockOut := false
    seq := adoptSeq st s.sc.seq }
  refreshSource (if st = s.sc.seq.state then t else raiseAll .generatorState t)

end Sys2Proof.Machine
end

