-- ==== Sys2Proof/Machine/Detector.lean ====
section
/-! DEFINITION. The Detector Unit (spec 08_detectors_alarm_relays_and_load_shedding.md, 8.1 to 8.7): conditions, qualifying, actions, proof,
release, restarts. -/

namespace Sys2Proof.Machine

/-! ### Conditions (R143) -/

/-- A usable value meets a test (R143: a record that is LAPSED or EMPTY gives no value). -/
def AnalogRec.meets (r : AnalogRec) (p : Int → Bool) : Bool :=
  match r.usable with
  | some v => p v
  | none => false

/-- An existing string's temperature meets a test. -/
def State.stringTemp (s : State) (p : Int → Bool) : Bool := s.strings.any fun g => (s.analog (chTemp g)).meets p

/-- Whether a record is LAPSED or EMPTY. -/
def AnalogRec.isLost (r : AnalogRec) : Bool := r.cond == .lapsed || r.cond == .empty

/-- Whether a shed stage is open (R153). -/
def Stage.isOpen (x : Stage) : Bool := x.state != .closed

/-- The condition of a detector (R143). -/
def State.condition (s : State) (d : Fin 32) : Bool :=
  let bus := s.analog chBus
  match d.val with
  | 0 => s.sc.mainsLost
  | 1 => bus.meets fun v => v > s.cfg .vbusMax + 500
  | 2 => bus.meets fun v => v < s.cfg .busLowMv
  | 3 => bus.meets fun v => v > s.cfg .vbusMax + 1500
  | 4 => (s.analog (chTemp .strA)).meets fun v => v > s.cfg .tempHigh
  | 5 => s.au.acctB.isSome && (s.analog (chTemp .strB)).meets fun v => v > s.cfg .tempHigh
  | 6 => s.stringTemp (fun v => v ≥ 600) || ((s.det d).seen && s.stringTemp (fun v => v ≥ 550))
  | 7 => (s.analog 6).isLost || s.strings.any fun g => (s.analog (chTemp g)).isLost
  | 8 => s.accounts.any fun a => a.lost ≥ 11
  | 9 => s.lowestSoc ≤ s.cfg .lowPm
  | 10 => s.lowestSoc ≤ s.cfg .critPm
  | 11 => s.au.imbalance == .imbalanced
  | 12 => s.someStale
  | 13 | 14 | 15 => (s.det d).marks != 0#12
  | 16 => s.rc.capShort
  | 17 => s.sc.seq.failStart
  | 18 => s.sc.seq.failStop
  | 19 => s.du.engineFault
  | 20 => s.sc.mc.mismatch || s.sc.gc.mismatch
  | 21 => s.rqu.reserve
  | 22 => s.rqu.exhausted
  | 23 => s.shc.stages.toList.any Stage.isOpen
  | n => s.du.alarmCond.toList.getD (n - 24) false

/-! ### Actions (R145) -/

/-- The start of a detector's action handed to the owning block (R145); the AU reads that of id 8 where it stands (R32). -/
def startAction (d : Fin 32) (s : State) : State :=
  match d.val with
  | 3 => setShut true s
  | 4 | 5 | 6 => restrict d true s
  | 13 | 14 => handMarked d s
  | 19 => setLockOut true s
  | 20 => setInhibit true s
  | _ => s

/-- The end of a detector's action handed to the owning block (R145). -/
def endAction (d : Fin 32) (s : State) : State :=
  match d.val with
  | 3 => setShut false s
  | 4 | 5 | 6 => restrict d false s
  | 19 => setLockOut false s
  | 20 => setInhibit false s
  | _ => s

/-- The change of an action handed on, given whether it was in force (R145). -/
def handChange (d : Fin 32) (was : Bool) (s : State) : State :=
  if !was && s.actionOf d then startAction d s
  else if was && !s.actionOf d then endAction d s
  else s

/-- The entry of a detector replaced, and the change of its action handed on. -/
def setDetActing (d : Fin 32) (e : Det) (s : State) : State := handChange d (s.actionOf d) (s.setDet d e)

/-! ### States (R144) -/

/-- A new occurrence: the entry to ACTIVE from CLEAR or QUALIFYING (R144). -/
def activate (d : Fin 32) (count : Nat) (s : State) : State :=
  handChange d (s.actionOf d) (newOccurrence d (s.setDet d { s.det d with state := .active, count := count, seen := true }))

/-- A detector becomes ACTIVE again from HOLDING (R144); a module detector hands its marked slots (R146). -/
def reactivate (d : Fin 32) (s : State) : State :=
  let t := setDetActing d { s.det d with state := .active, count := 0, seen := true } s
  if d = idFault ∨ d = idMismatch then handMarked d t else t

/-- A detector moved with DETECTOR-CHANGE raised (R144). -/
def setDetRaising (d : Fin 32) (e : Det) (s : State) : State := raiseAll .detectorChange (setDetActing d e s)

/-- One detector moved by the table of R144, given its condition. -/
def moveDet (d : Fin 32) (present : Bool) (s : State) : State :=
  let e := s.det d
  let f := { e with seen := present }
  let cfg := s.detCfg d
  match e.state, present with
  | .clear, true => if cfg.qualify ≤ 1 then activate d 1 s else s.setDet d { f with state := .qualifying, count := 1 }
  | .qualifying, true =>
    if cfg.qualify ≤ e.count + 1 then activate d (e.count + 1) s else s.setDet d { f with count := e.count + 1 }
  | .qualifying, false => s.setDet d { f with state := .clear, count := 0 }
  | .active, false =>
    if isLatching d cfg.cls then setDetRaising d { f with state := .latched } s
    else if cfg.hold = 0 then setDetActing d { f with state := .clear, count := 0 } s
    else setDetActing d { f with state := .holding, count := 0 } s
  | .holding, true => reactivate d s
  | .holding, false =>
    if cfg.hold ≤ e.count + 1 then setDetRaising d { f with state := .clear, count := e.count + 1 } s
    else s.setDet d { f with count := e.count + 1 }
  | .latched, true => if e.seen then s else newOccurrence d (s.setDet d f)
  | _, _ => s.setDet d f

/-! ### Proof (R150, R151) -/

/-- PROOF-RESULT raised to a port with its detail (R163). -/
def raiseProof (p : Proof) (interrupted : Bool) (s : State) : State :=
  raiseTo p.port .proofResult (s.onPort p.port fun r => { r with proofResult := some (p.id, interrupted) })

/-- The state and count of a detector under proof at an evaluation at which its real condition is absent (R150). -/
def proofMove (qualify : Nat) (e : Det) : Det :=
  match e.state with
  | .proved => { e with state := .clear, count := 0 }
  | .qualifying => { e with state := if qualify ≤ e.count + 1 then .proved else .qualifying, count := e.count + 1 }
  | _ => { e with state := if qualify ≤ 1 then .proved else .qualifying, count := 1 }

/-- Step 3 of R144: a proof in progress advanced (R150, R151), given the conditions of step 2. -/
def proofStep (conds : Vector Bool 32) (s : State) : State :=
  match s.du.proof with
  | none => s
  | some p =>
    let e := s.det p.id
    let ended := s.withDu { s.du with proof := none }
    if conds[p.id] then raiseProof p true (ended.setDet p.id { e with state := .clear, count := 0 })
    else
      let f := { proofMove p.qualify e with seen := false }
      if e.state = .proved then raiseProof p false (ended.setDet p.id f) else s.setDet p.id f

/-! ### The detector evaluation (R144) -/

/-- Whether an alarm input's level is the alarm level under a polarity (R144). -/
def isAlarmLevel (p : Polarity) (level : Option Bool) : Bool :=
  match p with
  | .whenClosed => level == some true
  | .whenOpen => level == some false

/-- The input number of alarm input i. -/
def alarmInput (i : Fin 8) : Fin 13 := ⟨i.val, by omega⟩

/-- The detector of alarm input i (R143). -/
def alarmDetector (i : Fin 8) : Fin 32 := ⟨24 + i.val, by omega⟩

/-- Step 1 of R144: the changed marks taken, the input conditions brought up to date. -/
def takeInputs (s : State) : State :=
  let cond (i : Fin 8) : Bool :=
    let r := s.input (alarmInput i)
    if r.changed || s.du.polarityWritten[i] then isAlarmLevel (s.detCfg (alarmDetector i)).polarity r.level else s.du.alarmCond[i]
  let fault := s.input inFault
  (s.withDu { s.du with
    alarmCond := vgen cond
    engineFault := if fault.changed then fault.level == some true else s.du.engineFault
    polarityWritten := Vector.replicate 8 false }).withMu { s.mu with inputs := vmap (fun r => { r with changed := false }) s.mu.inputs }

/-- Step 2 of R144: the condition of every detector. -/
def State.conditions (s : State) : Vector Bool 32 := vgen s.condition

/-- Whether a detector is under proof. -/
def State.underProof (s : State) (d : Fin 32) : Bool :=
  match s.du.proof with
  | some p => p.id == d
  | none => false

/-- Step 4 of R144 for the detectors below `n`, in the order of their ids: the model's choice, which decides whether the restriction set of R50
passes through empty when one restricting detector leaves it and another joins at one evaluation (notes/assumptions/43.md). -/
def detsBelow (n : Nat) (conds : Vector Bool 32) (s : State) : State :=
  ((List.finRange 32).filter fun d => d.val < n).foldl (fun x d => if x.underProof d then x else moveDet d conds[d] x) s

/-- The detector evaluation (R144) as far as the detectors below `n`. -/
def evalBelow (n : Nat) (s : State) : State :=
  let t := takeInputs s
  detsBelow n t.conditions (proofStep t.conditions t)

/-- The detector evaluation (R144). -/
def detectorEval (s : State) : State :=
  let t := evalBelow 32 s
  formRelays (t.withDu { t.du with evaluated := true })

/-- Whether a detector becomes ACTIVE by a new occurrence at an evaluation made now. -/
def qualifiesNow (d : Fin 32) (s : State) : Bool :=
  let t := evalBelow d.val s
  !t.underProof d && ((t.det d).state == .clear || (t.det d).state == .qualifying) && ((evalBelow (d.val + 1) s).det d).state == .active

/-- Whether a detector's hold runs out at an evaluation made now. -/
def holdExpiresNow (d : Fin 32) (s : State) : Bool :=
  let t := evalBelow d.val s
  !t.underProof d && (t.det d).state == .holding && ((evalBelow (d.val + 1) s).det d).state == .clear

/-- Whether a proof brings its detector to PROVED at an evaluation made now. -/
def provesNow (d : Fin 32) (s : State) : Bool :=
  let t := takeInputs s
  t.underProof d && (t.det d).state != .proved && ((proofStep t.conditions t).det d).state == .proved

/-! ### Class writes, release, proof requests (R145, R147, R150) -/

/-- The entry of a detector given a class (R145). -/
def reclassed (d : Fin 32) (cls : DetClass) (e : Det) : Det :=
  if e.state = .latched ∧ !isLatching d cls then
    if e.seen then { e with state := .active } else { e with state := .holding, count := 0 }
  else if e.state = .holding ∧ isLatching d cls then { e with state := .latched }
  else e

/-- A class written (R145), the action's force before the write given: state, action and relays brought into line. -/
def classWritten (d : Fin 32) (was : Bool) (s : State) : State :=
  let e := s.det d
  let f := reclassed d (s.detCfg d).cls e
  let t := handChange d was (s.setDet d f)
  let u := if (d = idFault ∨ d = idMismatch) ∧ was ∧ t.actionOf d then handMarked d t else t
  formRelays (if e.state = .holding ∧ f.state = .latched then raiseAll .detectorChange u else u)

/-- A LATCHED detector released (R147). -/
def releaseDet (d : Fin 32) (s : State) : State :=
  formRelays (setDetRaising d { s.det d with state := .clear, count := 0 } s)

/-! ### Warm restart (R152) -/

/-- The entry of a detector after a warm restart (R152). -/
def warmDet (d : Fin 32) (cls : DetClass) (e : Det) : Det :=
  if isLatching d cls ∧ (e.state = .active ∨ e.state = .latched) then { e with state := .latched, unseen := ⟨false, false, false⟩ }
  else { e with state := .clear, count := 0, unseen := ⟨false, false, false⟩, marks := 0#12 }

/-- Whether a warm restart raises DETECTOR-CHANGE for a detector (R144, notes/assumptions/20.md). -/
def warmRaises (before after : DetState) : Bool :=
  (before == .active && after == .latched) || (before == .holding && after == .clear)

/-- One detector at a warm restart (R152): its action is handed again, or handed as ending. -/
def warmDetStep (d : Fin 32) (s : State) : State :=
  let e := s.det d
  let f := warmDet d (s.detCfg d).cls e
  let was := s.actionOf d
  let t := s.setDet d f
  let u := if t.actionOf d then startAction d t else if was then endAction d t else t
  if warmRaises e.state f.state then raiseAll .detectorChange u else u

/-- The DU's warm restart (R152, R172 stage 4). The detectors take it and hand their actions in the order of their ids: the model's choice, by which
a slot marked under 13 and 14, both LATCHED, is retired with 13's cause (notes/assumptions/43.md). -/
def duWarm (s : State) : State :=
  let t := s.withDu { s.du with proof := none }
  formRelays ((List.finRange 32).foldl (fun x d => warmDetStep d x) t)

end Sys2Proof.Machine
end

