-- ==== Sys2Proof/Machine/Shelf.lean ====
section
/-! DEFINITION. The Shelf Bus Controller (spec 04_the_rectifier_shelf_bus.md): polls, replies, misses, the discovery round. -/

namespace Sys2Proof.Machine

/-! ### The poll cycle (R61, R63) -/

/-- The fitted slots in ascending order (R61, R63). -/
def State.fittedSlots (s : State) : List Slot := (List.finRange 12).filter s.isFitted

/-- The lowest fitted slot (R76); slot 0 when none is fitted: the model's choice (notes/assumptions/56.md). -/
def State.lowestFitted (s : State) : Slot := s.fittedSlots.headD 0

/-- The fitted slot after a slot, the lowest after the highest (R63). -/
def State.nextFitted (s : State) (k : Slot) : Slot := (s.fittedSlots.filter fun j => k < j).headD s.lowestFitted

/-- Whether a slot is the highest fitted one, at whose exchange the round ends (R74). -/
def State.isLastFitted (s : State) (k : Slot) : Bool := !s.fittedSlots.any fun j => k < j

/-- Whether the discovery round is under way (R74). -/
def State.inRound (s : State) : Bool := s.startStep == .discovery

/-! ### The poll frame (R64, R65, R68, R176) -/

/-- The check byte of a frame: the two's complement of the sum of the bytes before it (R66, R158, R173). -/
def checkByte (bytes : List Byte) : Byte := -bytes.sum

/-- Whether the bytes of a frame, its check byte included, sum to 0 modulo 256 (R66, R158). -/
def passesCheck (bytes : List Byte) : Bool := bytes.sum == 0#8

/-- A number in two bytes, most significant first (R173, R176). -/
def word16 (n : Nat) : List Byte := [BitVec.ofNat 8 (n / 256), BitVec.ofNat 8 n]

/-- The code of a command (R176). -/
def ModCmd.code (c : ModCmd) : Byte := BitVec.ofNat 8 c.ctorIdx

/-- The bytes of a poll frame (R176). -/
def pollBytes (k : Slot) (p : Poll) : List Byte :=
  let body := [BitVec.ofNat 8 k.val, p.cmd.code] ++ word16 p.setpoint ++ word16 p.limit
  body ++ [checkByte body]

/-- The poll frame of an exchange formed now (R65), in the round as R74 states. -/
def State.formPoll (s : State) (k : Slot) : Poll :=
  if s.inRound then ⟨.standby, s.cc.setpoint, s.cfg .modRating / 10⟩
  else ⟨s.command k, (s.mod k).setpoint, (s.mod k).limit⟩

/-- The frame of a repeat (R68): a RUN the record no longer gives is replaced by the record's command. -/
def State.repeatPoll (s : State) (x : Exchange) : Poll :=
  if x.frame.cmd = .run ∧ s.command x.slot ≠ .run then { x.frame with cmd := s.command x.slot } else x.frame

/-- A poll is sent (R62, R65): last poll takes its values, and the reply window opens behind it. -/
def sendPoll (x : Exchange) (p : Poll) (s : State) : State :=
  let t := s.setLink x.slot { s.link x.slot with lastPoll := some p }
  t.withSbc { t.sbc with exch := some { x with windowOpen := true }, lastFrame := some (pollBytes x.slot p) }

/-- The attempt that falls due now (R63, R65, R68): the first poll of the next exchange or the repeat of the one in flight; none before the
discovery round begins (R76), none while a reply window is open, none when no slot is fitted. -/
def startAttempt (s : State) : State :=
  match s.sbc.exch with
  | some x => if x.windowOpen then s else sendPoll x (s.repeatPoll x) s
  | none =>
    if (s.startStep = .discovery ∨ s.startStep = .running) ∧ s.isFitted s.sbc.cursor then
      let p := s.formPoll s.sbc.cursor
      sendPoll ⟨s.sbc.cursor, 1, p, true, []⟩ p s
    else s

/-! ### The reply (R66, R67, R176) -/

/-- The output state of a code (R176). -/
def outStateOf (b : Byte) : Option OutState :=
  match b.toNat with
  | 0 => some .off
  | 1 => some .on
  | 2 => some .limit
  | 3 => some .fault
  | _ => none

/-- The content of a well-formed reply (R66, R67): its fault code 0..5, and 0 exactly when its output state is not FAULT. -/
def replyContent (out hi lo temp code : Byte) : Option Reply :=
  match outStateOf out with
  | none => none
  | some o =>
    if code.toNat ≤ 5 ∧ (code.toNat = 0 ↔ o ≠ .fault) then some ⟨o, hi.toNat * 256 + lo.toNat, temp.toInt, code.toNat⟩ else none

/-- What a complete frame is judged to be (R67). -/
inductive Judged where
  | good (p : Reply)
  | bad (c : BadCause)
  deriving DecidableEq, Repr

/-- The judgement of a complete frame in the window of an exchange for a slot (R67). -/
def judgeFrame (k : Slot) (bytes : List Byte) : Judged :=
  if bytes.length > 7 ∨ !passesCheck bytes then .bad .check
  else match bytes with
    | [a, out, hi, lo, temp, code, _] =>
      if a.toNat ≠ k.val then .bad .wrongSlot
      else match replyContent out hi lo temp code with
        | some p => .good p
        | none => .bad .malformed
    | _ => .bad .check

/-! ### The end of an attempt and of an exchange (R67 to R72, R75) -/

/-- The exchange in flight ends (R63): the cursor moves on. -/
def closeExchange (k : Slot) (s : State) : State := s.withSbc { s.sbc with exch := none, cursor := s.nextFitted k }

/-- The end of the round's exchange for a slot (R74, R75): the round result goes to the RC after the highest fitted slot. -/
def roundExchangeEnd (k : Slot) (s : State) : State := if s.isLastFitted k then takeRound s else s

/-- The mark of a good reply outside the round (R69). -/
def Link.replyMark (l : Link) : ReplyMark := if !l.answered then .firstAnswer else if 3 ≤ l.silence then .returned else .plain

/-- The link record at the end of an exchange takes its bad replies (R62, R67): the tally grows by their number and the last bad cause is the latest
one's. -/
def Link.takeBads (l : Link) (bads : List BadCause) : Link :=
  { l with
    badTally := min 65535 (l.badTally + bads.length)
    lastBad := bads.head?.or l.lastBad }

/-- An exchange ends with a good reply (R69, R72). -/
def exchangeGood (x : Exchange) (p : Reply) (s : State) : State :=
  let k := x.slot
  let l := s.link k
  let t := closeExchange k (s.setLink k { l.takeBads x.bads with lastGood := some p, answered := true, silence := 0 })
  if s.inRound then roundExchangeEnd k t
  else
    let u := takeReply k l.replyMark p t
    if l.replyMark = .returned then clearMark idLost k u else u

/-- A slot handed on as lost (R71). -/
def handLost (k : Slot) (s : State) : State :=
  let t := takeLost k s
  if (s.link k).answered then setMark idLost k t else t

/-- An exchange ends as a miss (R70, R71). -/
def exchangeMiss (x : Exchange) (s : State) : State :=
  let k := x.slot
  let l := s.link k
  let t := closeExchange k
    (s.setLink k { l.takeBads x.bads with silence := bump 255 l.silence, missTally := bump 65535 l.missTally })
  if s.inRound then roundExchangeEnd k t else if l.silence = 2 then handLost k t else t

/-- An attempt draws a bad reply (R67, R68). The exchange holds it until its end, where the link record takes it (R62, R78,
notes/assumptions/44.md). -/
def badReply (x : Exchange) (c : BadCause) (s : State) : State :=
  let y := { x with bads := c :: x.bads }
  if x.attempt < 3 then s.withSbc { s.sbc with exch := some { y with attempt := x.attempt + 1, windowOpen := false } }
  else exchangeMiss y s

/-- The exchange whose reply window is open, if one is. -/
def State.openWindow (s : State) : Option Exchange := s.sbc.exch.filter fun x => x.windowOpen

/-- Bytes received in a reply window (R67): a complete frame is judged; fewer bytes than a reply frame complete nothing, and bytes outside a
window are discarded (notes/assumptions/27.md). -/
def frameArrives (bytes : List Byte) (s : State) : State :=
  match s.openWindow with
  | none => s
  | some x =>
    if bytes.length < 7 then s
    else match judgeFrame x.slot bytes with
      | .good p => exchangeGood x p s
      | .bad c => badReply x c s

/-- A reply window closes with no complete frame (R67). -/
def windowCloses (s : State) : State :=
  match s.openWindow with
  | none => s
  | some x => badReply x .noReply s

/-! ### Restarts (R61, R74, R76, R77) -/

/-- The SBC at start-up with the fitted set taken (R61, R76), the poll cursor at slot 0 when no slot is fitted: the model's choice
(notes/assumptions/56.md). -/
def startSbc (fitted : SlotSet) : Sbc :=
  ⟨fitted, Vector.replicate 12 Link.initial, ((List.finRange 12).filter fun k => fitted.getLsbD k.val).headD 0, none, none⟩

/-- The discovery round begins (R74); with no slot fitted it ends at once (R61). -/
def beginRound (s : State) : State :=
  let t := s.withStartStep .discovery
  if t.fittedSlots.isEmpty then takeRound t else t

/-- The silent slots handed to the DU at a warm restart (R77, R172 stage 5). -/
def handSilent (s : State) : State :=
  forSlots (fun k x => if 3 ≤ (x.link k).silence && (x.link k).answered then setMark idLost k x else x) s

end Sys2Proof.Machine
end

