-- ==== Sys2Proof/Machine/Shed.lean ====
section
/-! DEFINITION. The Shed Controller (spec 08_detectors_alarm_relays_and_load_shedding.md, 8.8): the SHC evaluation and the manual requests. -/

namespace Sys2Proof.Machine

/-- The record of a shed stage. -/
def State.stage (s : State) (k : Fin 4) : Stage := s.shc.stages[k]

/-- The state with the record of a shed stage replaced. -/
def State.setStage (s : State) (k : Fin 4) (x : Stage) : State := s.withShc { s.shc with stages := s.shc.stages.set k x }

/-- The settings of a shed stage. -/
def State.stageCfg (s : State) (k : Fin 4) : StageCfg := s.ss.table.stages[k]

/-- A stage's disconnect condition (R154). -/
def State.discCond (s : State) (k : Fin 4) : Bool :=
  (s.analog chBus).meets (fun v => v ≤ (s.stageCfg k).discV) || s.lowestSoc ≤ (s.stageCfg k).discSoc

/-- A stage's reconnect condition (R155). -/
def State.recCond (s : State) (k : Fin 4) : Bool :=
  s.sc.source != .none && (s.analog chBus).meets (fun v => v ≥ (s.stageCfg k).recV) && (s.stageCfg k).recSoc ≤ s.lowestSoc

/-- Whether every stage below a stage is open (R153). -/
def State.lowerOpen (s : State) (k : Fin 4) : Bool := (List.finRange 4).all fun j => !(j < k) || (s.stage j).isOpen

/-- Whether a stage is the highest open one (R155). -/
def State.isHighestOpen (s : State) (k : Fin 4) : Bool :=
  (s.stage k).isOpen && (List.finRange 4).all fun j => !(k < j) || !(s.stage j).isOpen

/-- A stage opened (R153, R154). -/
def openStage (k : Fin 4) (st : StageState) (s : State) : State :=
  raiseAll .shedChange (s.setStage k { s.stage k with state := st, waiting := false, follow := none })

/-- A stage closed (R155, R156): its counts and the reconnect spacing become 0. -/
def closeStage (k : Fin 4) (s : State) : State :=
  let t := s.setStage k { s.stage k with state := .closed, discCount := 0, recCount := 0, waiting := false, follow := none }
  raiseAll .shedChange (t.withShc { t.shc with spacing := 0 })

/-- Whether a stage below has opened since a given moment, the stages as they stood then given. -/
def State.lowerOpened (s : State) (before : Vector Stage 4) (k : Fin 4) : Bool :=
  (List.finRange 4).any fun j => j < k && (s.stage j).isOpen && !before[j].isOpen

/-- Whether the stage directly below has opened since a given moment. -/
def State.justBelowOpened (s : State) (before : Vector Stage 4) (k : Fin 4) : Bool :=
  (List.finRange 4).any fun j => j.val + 1 == k.val && (s.stage j).isOpen && !before[j].isOpen

/-- Whether a stage may open at this evaluation (R154): every lower stage open, and none of them opened at it. -/
def State.mayOpen (s : State) (before : Vector Stage 4) (k : Fin 4) : Bool := s.lowerOpen k && !s.lowerOpened before k

/-- Whether the disconnect delay of a stage has run out at this evaluation with no follow time running (R154). -/
def State.delayOut (s : State) (k : Fin 4) : Bool :=
  let x := s.stage k
  s.discCond k && x.state == .closed && x.follow.isNone && s.cfg .shedDelay ≤ bump 65535 x.discCount

/-- Whether the follow time of a stage reaches 0 at this evaluation (R154). -/
def State.followOut (s : State) (k : Fin 4) : Bool :=
  let x := s.stage k
  s.discCond k && x.state == .closed && (match x.follow with
    | some n => n ≤ 1
    | none => false)

/-- Whether a waiting stage takes its follow time at this evaluation, the stage directly below having just opened (R154), whatever its own count
then is. -/
def State.followBegins (s : State) (before : Vector Stage 4) (k : Fin 4) : Bool :=
  let x := s.stage k
  x.state == .closed && x.waiting && s.justBelowOpened before k

/-- A stage that stays closed, waiting: it takes a follow time of 2 when the stage directly below has just opened (R154). -/
def holdWaiting (before : Vector Stage 4) (k : Fin 4) (s : State) : State :=
  s.setStage k { s.stage k with waiting := true, follow := if s.justBelowOpened before k then some 2 else none }

/-- R154 for one stage, given the stages as the evaluation found them (notes/assumptions/26.md). -/
def stageDisconnect (before : Vector Stage 4) (k : Fin 4) (s : State) : State :=
  let x := s.stage k
  if !s.discCond k then s.setStage k { x with discCount := 0, waiting := false, follow := none }
  else
    let t := s.setStage k { x with discCount := bump 65535 x.discCount }
    if s.delayOut k || s.followOut k || s.followBegins before k then
      if t.mayOpen before k then openStage k .openAuto t else holdWaiting before k t
    else if x.state = .closed then t.setStage k { t.stage k with follow := x.follow.map (· - 1) }
    else t

/-- Whether an OPEN-AUTO stage closes now, its reconnect count brought up to date (R155). -/
def State.reconnects (s : State) (k : Fin 4) : Bool :=
  (s.stage k).state == .openAuto && s.cfg .recDelay ≤ (s.stage k).recCount && s.isHighestOpen k && 2 ≤ s.shc.spacing

/-- The reconnect count of one stage (R155). -/
def countReconnect (k : Fin 4) (s : State) : State :=
  let x := s.stage k
  if x.isOpen then s.setStage k { x with recCount := if s.recCond k then bump 65535 x.recCount else 0 } else s

/-- R155 for one stage. -/
def stageReconnect (k : Fin 4) (s : State) : State :=
  let t := countReconnect k s
  if t.reconnects k then closeStage k t else t

/-- R154 and R155 for the stages below `n`, S1 first. -/
def stagesBelow (n : Nat) (before : Vector Stage 4) (s : State) : State :=
  ((List.finRange 4).filter fun k => k.val < n).foldl (fun x k => stageReconnect k (stageDisconnect before k x)) s

/-- The SHC evaluation as far as the stages below `n` (R154, R155). -/
def shcBelow (n : Nat) (s : State) : State :=
  stagesBelow n s.shc.stages (s.withShc { s.shc with spacing := bump 65535 s.shc.spacing })

/-- The SHC evaluation (R154, R155, notes/assumptions/26.md). -/
def shcEval (s : State) : State := shcBelow 4 s

/-- One stage at a SHED STAGE (R156), the stage named given. -/
def shedOne (named k : Fin 4) (s : State) : State :=
  let x := s.stage k
  if x.state = .closed ∨ (k = named ∧ x.state = .openAuto) then openStage k .openManual s
  else s.setStage k { x with waiting := false, follow := none }

/-- SHED STAGE (R156): the stages from S1 up to the one named; a waiting stage directly above a stage that opens takes its follow time
(R154). -/
def shedUpTo (named : Fin 4) (s : State) : State :=
  let t := ((List.finRange 4).filter fun k => k ≤ named).foldl (fun x k => shedOne named k x) s
  ((List.finRange 4).filter fun k => named < k).foldl (fun x k =>
    if (x.stage k).waiting && x.justBelowOpened s.shc.stages k then x.setStage k { x.stage k with follow := some 2 } else x) t

/-- Whether RESTORE STAGE closes a stage (R156). -/
def State.mayRestore (s : State) (k : Fin 4) : Bool :=
  s.isHighestOpen k && ((s.stage k).state == .openManual || s.recCond k)

/-- A stage at a warm restart (R157). -/
def Stage.warm (x : Stage) : Stage := ⟨x.state, 0, false, none, 0⟩

/-- The SHC's warm restart (R157). -/
def shcWarm (s : State) : State := s.withShc ⟨vmap Stage.warm s.shc.stages, 0⟩

end Sys2Proof.Machine
end

