-- ==== Sys2Proof/Machine/Clock.lean ====
section
/-! DEFINITION. The Clock (R170), snapshots (R165), and the whole periodic steps with their parts in order. -/

namespace Sys2Proof.Machine

/-! ### Plant time and the minute event (R170) -/

/-- The clock at a minute event (R170). -/
def clockStep (s : State) : State :=
  if !s.clk.isSet then s
  else if s.clk.minute < 1439 then s.withClk { s.clk with minute := s.clk.minute + 1 }
  else if s.clk.day < 65535 then s.withClk { s.clk with day := s.clk.day + 1, minute := 0 }
  else s

/-- The minute event up to the boost timer. -/
def minuteCharge (s : State) : State := boostTimerStep (clockStep s)

/-- The minute event up to the run minutes. -/
def minuteRun (s : State) : State := runMinutesStep (minuteCharge s)

/-- The minute event up to rotation remaining. -/
def minuteRotation (s : State) : State := rotationMinute (minuteRun s)

/-- The minute event (R170): clock, boost timer, run minutes, rotation remaining, the RQU's minute work (notes/assumptions/2.md). -/
def minuteStep (s : State) : State := rquMinute (minuteRotation s)

/-! ### Snapshots (R165) -/

/-- The service states in the order of the table of R79. -/
def Service.all : List Service := [.absent, .standby, .starting, .running, .stopping, .resting, .retired, .held, .lost]

/-- The content of a snapshot taken now (R165). -/
def snapshotNow (s : State) : Snapshot where
  day := s.clk.day
  minute := s.clk.minute
  clockSet := s.clk.isSet
  acctA := s.au.acctA
  acctB := s.au.acctB
  source := s.sc.source
  seq := s.sc.seq.state
  services := Service.all.map fun st => s.countMods fun m => m.service == st
  fuel := s.rqu.fuel
  residue := s.rqu.residue
  stages := s.shc.stages.toList.map Stage.state

/-- The capture for one port (R165). -/
def PortRec.capture (x : Snapshot) (p : PortRec) : PortRec :=
  if p.asked then PortRec.raise .snapshotReady { p with slot := some x, asked := false } else p

/-- The capture at the completion of an account update (R165). -/
def captureSnapshots (s : State) : State := s.withPc { s.pc with ports := s.pc.ports.map (PortRec.capture (snapshotNow s)) }

/-! ### The account update with what follows it (R21, R44, R124, R154, R165) -/

/-- The account update up to the snapshots. -/
def updateSnap (s : State) : State := captureSnapshots (auUpdate s)

/-- The account update up to the charge evaluation. -/
def updateCharge (s : State) : State := chargeEval (updateSnap s)

/-- The account update up to the request evaluation. -/
def updateRequests (s : State) : State := requestEval (updateCharge s)

/-- The account update with the evaluations that follow it (notes/assumptions/2.md, notes/assumptions/22.md). -/
def updateStep (s : State) : State := shcEval (updateRequests s)

/-! ### The measurement period with what follows it (R2, R80, R101, R144) -/

/-- The measurement period up to the outage timer. -/
def periodOutage (r : Readings) (s : State) : State := outageSecond (completePeriod r s)

/-- The measurement period up to the RC's second. -/
def periodRc (r : Readings) (s : State) : State := rcSecond (periodOutage r s)

/-- The measurement period up to the supply evaluation. -/
def periodSupply (r : Readings) (s : State) : State := supplyEval (periodRc r s)

/-- The measurement period with the events that follow its completion (notes/assumptions/2.md). -/
def periodStep (r : Readings) (s : State) : State := detectorEval (periodSupply r s)

end Sys2Proof.Machine
end

