-- ==== Sys2Proof/Machine/Operands.lean ====
section
/-! DEFINITION. Operands of the port requests: numbers and fields in bytes (R173, R177), setting numbers and values (R142, R167, R174). -/

namespace Sys2Proof.Machine

/-! ### Bytes (R173, R177) -/

/-- A number in one byte, two's complement. -/
def be1 (x : Int) : List Byte := [BitVec.ofInt 8 x]

/-- A number in two bytes, most significant first, two's complement. -/
def be2 (x : Int) : List Byte :=
  let v := BitVec.ofInt 16 x
  [v.extractLsb' 8 8, v.extractLsb' 0 8]

/-- A number in four bytes, most significant first, two's complement. -/
def be4 (x : Int) : List Byte :=
  let v := BitVec.ofInt 32 x
  [v.extractLsb' 24 8, v.extractLsb' 16 8, v.extractLsb' 8 8, v.extractLsb' 0 8]

/-- A number in 1, 2 or 4 bytes. -/
def beN (width : Nat) (x : Int) : List Byte :=
  match width with
  | 1 => be1 x
  | 2 => be2 x
  | _ => be4 x

/-- A set or clear, or yes or no, field (R177). -/
def flag (b : Bool) : List Byte := be1 (if b then 1 else 0)

/-- The position of a value in a list of values (R177). -/
def position (n : Nat) : List Byte := be1 n

/-- An optional enumerated field: 255 when absent (R173). -/
def optEnum (x : Option Nat) : List Byte := be1 (x.getD 255)

/-- An optional field of some bytes: a presence byte, then the bytes, or zero bytes of the full width (R173, R177). -/
def optField (width : Nat) (x : Option (List Byte)) : List Byte :=
  match x with
  | some b => be1 1 ++ b
  | none => be1 0 ++ List.replicate width 0#8

/-- An optional numeric field (R173). -/
def optNum (width : Nat) (x : Option Int) : List Byte := optField width (x.map (beN width))

/-- A plant time: day and minute (R177). -/
def plantBytes (p : PlantTime) : List Byte := be2 p.day ++ be2 p.minute

/-- The level of a digital input (R177): 0 for the first level of R1, 1 for the second, 254 for UNKNOWN. -/
def levelByte (x : Option Bool) : List Byte :=
  be1 (match x with
    | some true => 0
    | some false => 1
    | none => 254)

/-- The unsigned number two bytes stand for. -/
def nat16 (a b : Byte) : Nat := a.toNat * 256 + b.toNat

/-- The unsigned number four bytes stand for. -/
def nat32 (a b c d : Byte) : Nat := nat16 a b * 65536 + nat16 c d

/-- The signed number four bytes stand for. -/
def int32 (a b c d : Byte) : Int := (BitVec.ofNat 32 (nat32 a b c d)).toInt

/-! ### Settings by number and field (R174) -/

/-- The fields of a detector's settings (R174). -/
inductive DetField where
  | cls | sev | qualify | hold | polarity
  deriving DecidableEq, Repr

/-- The fields of a stage's settings (R174). -/
inductive StageField where
  | discV | recV | discSoc | recSoc
  deriving DecidableEq, Repr

/-- A setting named by its number and field (R174). -/
inductive SettingId where
  | plain (k : Setting)
  | stage (k : Fin 4) (f : StageField)
  | det (d : Fin 32) (f : DetField)
  deriving DecidableEq, Repr

/-- The field of a stage a field number selects (R174). -/
def stageField (f : Nat) : Option StageField := [StageField.discV, .recV, .discSoc, .recSoc][f]?

/-- The field of a detector a field number selects; polarity for ids 24..31 alone (R142, R174). -/
def detField (d : Fin 32) (f : Nat) : Option DetField :=
  if f = 4 then (if 24 ≤ d.val then some .polarity else none) else [DetField.cls, .sev, .qualify, .hold][f]?

/-- The setting an object index and a field name (R174). -/
def settingId (index field : Nat) : Option SettingId :=
  if index ≤ 70 then (if field = 0 then (Setting.all[index]?).map SettingId.plain else none)
  else if h : 72 ≤ index ∧ index ≤ 75 then (stageField field).map (SettingId.stage ⟨index - 72, by omega⟩)
  else if h : 96 ≤ index ∧ index ≤ 127 then
    (detField ⟨index - 96, by omega⟩ field).map (SettingId.det ⟨index - 96, by omega⟩)
  else none

/-- The value of a field of a stage's settings. -/
def StageCfg.get (c : StageCfg) : StageField → Nat
  | .discV => c.discV
  | .recV => c.recV
  | .discSoc => c.discSoc
  | .recSoc => c.recSoc

/-- A stage's settings with one field replaced. -/
def StageCfg.put (c : StageCfg) (f : StageField) (v : Nat) : StageCfg :=
  match f with
  | .discV => { c with discV := v }
  | .recV => { c with recV := v }
  | .discSoc => { c with discSoc := v }
  | .recSoc => { c with recSoc := v }

/-- The code of a class (R174). -/
def DetClass.code (c : DetClass) : Nat := c.ctorIdx

/-- The class of a code (R174); codes of no class are not asked for. -/
def classOf : Nat → DetClass
  | 0 => .note
  | 1 => .alarm
  | 2 => .recover
  | 3 => .latch
  | _ => .protect

/-- The value of a field of a detector's settings, in the codes of R174. -/
def DetCfg.get (c : DetCfg) : DetField → Nat
  | .cls => c.cls.code
  | .sev => c.sev.ctorIdx
  | .qualify => c.qualify
  | .hold => c.hold
  | .polarity => c.polarity.ctorIdx

/-- A detector's settings with one field replaced. -/
def DetCfg.put (c : DetCfg) (f : DetField) (v : Nat) : DetCfg :=
  match f with
  | .cls => { c with cls := classOf v }
  | .sev => { c with sev := if v = 0 then .minor else .major }
  | .qualify => { c with qualify := v }
  | .hold => { c with hold := v }
  | .polarity => { c with polarity := if v = 0 then .whenClosed else .whenOpen }

/-- The working value of a setting (R167). -/
def Settings.get (t : Settings) : SettingId → Nat
  | .plain k => t.val k
  | .stage k f => t.stages[k].get f
  | .det d f => t.dets[d].get f

/-- The working table with a setting replaced (R167). -/
def Settings.set (t : Settings) (i : SettingId) (v : Nat) : Settings :=
  match i with
  | .plain k => t.put k v
  | .stage k f => { t with stages := vmod t.stages k fun c => c.put f v }
  | .det d f => { t with dets := vmod t.dets d fun c => c.put f v }

/-- The default of a setting (R142, R143, R153, section 10.4). -/
def SettingId.default : SettingId → Nat
  | .plain k => k.row.dflt
  | .stage k f => (stageDefault k).get f
  | .det d f => (detDefault d).get f

/-- The range of a field of a stage's settings as it stands (R153). -/
def StageCfg.range (c : StageCfg) : StageField → Nat × Nat
  | .discV => (40000, min 56000 (c.recV - 1000))
  | .recV => (max 40000 (c.discV + 1000), 56000)
  | .discSoc => (0, min 1000 (c.recSoc - 50))
  | .recSoc => (max 0 (c.discSoc + 50), 1000)

/-- The choices of a field of a detector's settings (R142). -/
def DetField.choices : DetField → List Nat
  | .cls => [0, 1, 2, 3]
  | .sev | .polarity => [0, 1]
  | .qualify => [1, 5, 30, 120]
  | .hold => [0, 10, 60, 300]

/-- Whether a detector's setting cannot be written (R142). -/
def isFixed (d : Fin 32) (f : DetField) : Bool := isProtect d && f != .polarity

/-- The ends of a setting's range as it stands (R167, notes/assumptions/23.md). -/
def Settings.ends (t : Settings) : SettingId → Nat × Nat
  | .plain k => t.range k
  | .stage k f => t.stages[k].range f
  | .det d f => if isFixed d f then (t.dets[d].get f, t.dets[d].get f) else (f.choices.headD 0, f.choices.getLastD 0)

/-- The nearer of two choices (R160); equally near ones are left open (notes/assumptions/8.md). -/
def nearerOf (v : Int) (a b : Nat) : Nat :=
  let x := (v - a).natAbs
  let y := (v - b).natAbs
  if x < y then a else if y < x then b else if Config.tieGoesUp a b then b else a

/-- The nearest of a rising list of choices (R160). -/
def nearest (v : Int) : List Nat → Nat
  | [] => 0
  | [a] => a
  | a :: b :: rest => if v ≤ b then nearerOf v a b else nearest v (b :: rest)

/-- The value a write of a setting takes (R142, R160, R167, R174, notes/assumptions/23.md). -/
def Settings.taken (t : Settings) (i : SettingId) (v : Int) : Nat :=
  match i with
  | .plain .slotFitted => (BitVec.ofInt 12 v).toNat
  | .plain k => clampTo (t.range k).1 (t.range k).2 v
  | .stage k f => clampTo (t.stages[k].range f).1 (t.stages[k].range f).2 v
  | .det d f =>
    if isFixed d f || (f == .cls && v == 4) then t.dets[d].get f else nearest v f.choices

/-- Whether a write is answered CLAMPED (R142, R167): the value was changed, or a setting that cannot be written was kept. -/
def Settings.clamps (t : Settings) (i : SettingId) (v : Int) : Bool :=
  t.taken i v != v || (match i with
    | .det d f => isFixed d f
    | _ => false)

/-! ### Schedule entries (R132) -/

/-- The schedule kind of a code (R173). -/
def kindOf (b : Byte) : Option SchedKind :=
  match b.toNat with
  | 0 => some .exercise
  | 1 => some .boostCharge
  | 2 => some .rotate
  | _ => none

/-- A repeat interval brought into its range (R132). -/
def takenInterval (n : Nat) : Nat := if n = 0 then 0 else clampTo 60 40320 n

/-- A duration brought into the range of its kind; that of ROTATE is ignored (R132). -/
def takenDuration (k : SchedKind) (n : Nat) : Nat :=
  match k with
  | .exercise => clampTo 10 240 n
  | .boostCharge => clampTo 60 1440 n
  | .rotate => n

/-- A mask set with the bits that name no kind cleared (R164). -/
def takenMask (n : Nat) : NoticeSet := BitVec.ofNat 13 n

end Sys2Proof.Machine
end

