-- ==== Sys2Proof/Machine/Ports.lean ====
section
/-! DEFINITION. The Port Controller's frames (spec 09_master_ports_requests_and_notices.md, 9.1 and 9.2): taking a frame, the tests of R160,
responses. -/

namespace Sys2Proof.Machine

/-! ### Responses (R158, R173) -/

/-- The status byte (R173). -/
def Status.code : Status → Nat
  | .done => 0
  | .clamped => 1
  | .busy => 2
  | .rejected why => 16 + why.ctorIdx

/-- The bytes of a response frame (R173). -/
def Response.bytes (r : Response) : List Byte :=
  let body := [r.tag] ++ be1 r.status.code ++ be2 r.data.length ++ r.data
  body ++ [checkByte body]

/-- What an owning block gives back: the status, the data, and the state after it (R160, R161). -/
structure Served where
  status : Status
  data : List Byte
  after : State

/-- DONE with data; nothing changed (a read, R160). -/
def answer (data : List Byte) (s : State) : Served := ⟨.done, data, s⟩

/-- DONE, the request having acted. -/
def acted (s : State) : Served := ⟨.done, [], s⟩

/-- DONE or CLAMPED with the values taken (R160, notes/assumptions/10.md), the request having acted. -/
def actedWith (clamped : Bool) (data : List Byte) (s : State) : Served := if clamped then ⟨.clamped, data, s⟩ else acted s

/-- REFUSED with a reason; nothing changed (R160). -/
def refuse (why : Reject) (s : State) : Served := ⟨.rejected why, [], s⟩

/-- BUSY; nothing changed (R160). -/
def busy (s : State) : Served := ⟨.busy, [], s⟩

/-! ### The catalogue (R161, R171, R173) -/

/-- How a request is tested and by what it is carried out: its code, the number of its argument bytes, whether test 3 of R160 applies to it,
the start-up step that sets up its owning block (R171), its object test (test 2) and its owner's rule. -/
structure Request where
  code : Nat
  argCount : Nat
  heldOff : Bool
  setUpBy : Nat
  objectExists : State → Nat → List Byte → Bool
  serve : Port → Nat → List Byte → State → Served

/-- How many start-up steps have ended (R171). -/
def StartStep.ended : StartStep → Nat
  | .load => 0
  | .restore => 1
  | .safeOutputs => 2
  | .discovery => 3
  | .running => 4

/-- Test 3 of R160: the site hold is active and the port is P or T. -/
def State.holdsOff (s : State) (q : Port) : Bool := s.pc.siteHold && q != .craft

/-- The outcome of a new request of the catalogue whose argument bytes number as they should: tests 2 to 6 of R160. -/
def Request.outcome (c : Request) (q : Port) (index : Nat) (args : List Byte) (s : State) : Served :=
  if !c.objectExists s index args then refuse .range s
  else if c.heldOff && s.holdsOff q then refuse .held s
  else c.serve q index args s

/-! ### Frames (R159, R173) -/

/-- The parts of a frame that passes its check (R158). -/
structure Parts where
  tag : Byte
  code : Byte
  index : Byte
  args : List Byte
  deriving DecidableEq, Repr

/-- The parts of a frame of 5 to 17 bytes whose bytes sum to 0 (R158, R159, R173); none for a frame answered CHECK. -/
def frameParts (bytes : List Byte) : Option Parts :=
  if bytes.length < 5 ∨ 17 < bytes.length ∨ !passesCheck bytes then none
  else match bytes with
    | _ :: tag :: code :: index :: rest => some ⟨tag, code, index, rest.dropLast⟩
    | _ => none

/-- The tag a refusal for CHECK carries (R159): as received, or 0 when the frame ended before it. -/
def receivedTag (bytes : List Byte) : Byte := bytes.getD 1 0#8

/-- A response given to the master and not kept (R159, R171). -/
def giveOnly (q : Port) (r : Response) (s : State) : State := s.onPort q fun p => { p with sent := some r }

/-- A response given to the master and kept with its frame (R159). -/
def giveAndKeep (q : Port) (bytes : List Byte) (r : Response) (s : State) : State :=
  s.onPort q fun p => { p with lastFrame := some bytes, lastResponse := some r, sent := some r }

/-- A repeat answered with the last response (R159). -/
def giveAgain (q : Port) (s : State) : State := s.onPort q fun p => { p with sent := p.lastResponse }

/-- A new request (R159 step 3, R160, R171), its catalogue entry given if its code is in the catalogue. -/
def takeRequest (c : Option Request) (q : Port) (bytes : List Byte) (p : Parts) (s : State) : State :=
  match c with
  | none => giveAndKeep q bytes ⟨p.tag, .rejected .unknown, []⟩ s
  | some c =>
    if p.args.length ≠ c.argCount then giveAndKeep q bytes ⟨p.tag, .rejected .unknown, []⟩ s
    else if s.startStep.ended < c.setUpBy then giveOnly q ⟨p.tag, .busy, []⟩ s
    else
      let o := c.outcome q p.index.toNat p.args s
      giveAndKeep q bytes ⟨p.tag, o.status, o.data⟩ o.after

/-- A request frame taken at a port (R159, R171, R173), given how its request code is looked up in the catalogue. -/
def takeFrame (lookup : Nat → Option Request) (q : Port) (bytes : List Byte) (s : State) : State :=
  if s.startStep = .load then giveOnly q ⟨receivedTag bytes, .busy, []⟩ s
  else match frameParts bytes with
    | none => giveOnly q ⟨receivedTag bytes, .rejected .check, []⟩ s
    | some p =>
      if (s.port q).lastFrame = some bytes then giveAgain q s
      else takeRequest (lookup p.code.toNat) q bytes p s

/-- The bytes of a frame with a request code (R158, R173). -/
def frameBytes (code : Nat) (f : Frame) : List Byte := [165#8, f.tag, BitVec.ofNat 8 code, f.index] ++ f.args ++ [f.check]

/-- A frame of one request of the catalogue taken at a port. -/
def takeFor (c : Request) (q : Port) (f : Frame) (s : State) : State := takeFrame (fun _ => some c) q (frameBytes c.code f) s

/-! ### Object tests (test 2 of R160) -/

/-- A request without an object ignores the index (R160). -/
def noObject : State → Nat → List Byte → Bool := fun _ _ _ => true

/-- An object index below a bound. -/
def indexBelow (n : Nat) : State → Nat → List Byte → Bool := fun _ i _ => i < n

/-- A slot for an index that passed `indexBelow 12`. -/
def slotOf (i : Nat) : Slot := Fin.ofNat 12 i

/-- A detector for an index that passed `indexBelow 32`. -/
def detOf (i : Nat) : Fin 32 := Fin.ofNat 32 i

end Sys2Proof.Machine
end

