-- ==== Sys2Proof/Machine/PortReads.lean ====
section
/-! DEFINITION. The fourteen reads of the catalogue (R161): the data of each response in bytes (R175, R177, notes/assumptions/11.md). -/

namespace Sys2Proof.Machine

/-! ### READ ACCOUNT (R35, R175) -/

/-- The account block of 26 bytes (R175). -/
def accountBlock (a : Account) : List Byte :=
  be4 a.q ++ be1 a.residue ++ be4 a.cfull ++ be1 a.band ++ flag a.assumed ++ be2 a.soc ++ be2 a.runtime ++ position a.conf.ctorIdx ++
  be2 a.hours ++ be2 a.anchorSec ++ be2 a.taperMin ++ be1 a.taperSec ++ be2 a.lost ++ optEnum (a.restored.map Conf.ctorIdx)

/-- The string an object index selects (R35). -/
def stringOf (i : Nat) : StringId := if i = 0 then .strA else .strB

/-- The data of READ ACCOUNT (R35, R175). -/
def dataAccount (s : State) (g : StringId) : List Byte :=
  match s.account g with
  | some a => be1 1 ++ accountBlock a ++ position s.au.imbalance.ctorIdx ++ be2 (s.taperThreshold g)
  | none => be1 0

/-- READ ACCOUNT (R35). -/
def reqReadAccount : Request := ⟨16, 0, false, 2, indexBelow 2, fun _ i _ s => answer (dataAccount s (stringOf i)) s⟩

/-! ### READ MODULE (R78, R80) -/

/-- The content of a reply. -/
def replyBytes (p : Reply) : List Byte := position p.out.ctorIdx ++ be2 p.current ++ be1 p.temp ++ be1 p.code

/-- The content of a poll. -/
def pollContent (p : Poll) : List Byte := position p.cmd.ctorIdx ++ be2 p.setpoint ++ be2 p.limit

/-- The present output state (R73); the code of UNKNOWN is left open (notes/assumptions/9.md). -/
def outputBytes (x : Option OutState) : List Byte :=
  match x with
  | some o => position o.ctorIdx
  | none => [Config.unknownOutputCode]

/-- The link part of READ MODULE (R78). -/
def linkBytes (s : State) (k : Slot) : List Byte :=
  let l := s.link k
  position (s.linkCond k).ctorIdx ++ be1 l.silence ++ flag l.answered ++ optField 5 (l.lastGood.map replyBytes) ++
  outputBytes (s.presentOutput k) ++ optField 5 (l.lastPoll.map pollContent) ++ be2 l.badTally ++ be2 l.missTally ++
  optEnum (l.lastBad.map BadCause.ctorIdx)

/-- The number of a retire cause (R80), sent as an optional number and not as a position in a list: the model's choice (notes/assumptions/11.md). -/
def RetireCause.number : RetireCause → Nat
  | .moduleFault => 13
  | .moduleMismatch => 14

/-- The service record in READ MODULE (R80). -/
def serviceBytes (m : Module) : List Byte :=
  position m.service.ctorIdx ++ be4 m.runMinutes ++ be2 m.startCount ++ flag m.skip ++ be2 m.timeIn ++
  optEnum (m.holdOrigin.map Port.ctorIdx) ++ optNum 1 (m.retireCause.map fun c => (c.number : Int)) ++
  optNum 1 (m.fault.map fun c => (c : Int)) ++ be2 m.setpoint ++ be2 m.limit

/-- The shelf fields in READ MODULE (R80). -/
def shelfBytes (c : Rc) : List Byte :=
  be1 c.nNeed ++ be2 c.rawNeed ++ flag c.capShort ++ be1 c.queue.length ++ c.queue.flatMap (fun k => be1 k.val) ++
  optNum 1 (c.walkTimer.map fun n => (n : Int)) ++ optNum 2 (c.removal.map fun n => (n : Int)) ++ be2 c.rotation ++
  optField 2 (c.swap.map fun p => be1 p.1.val ++ be1 p.2.val) ++ flag c.shut

/-- The data of READ MODULE (R78, R80). -/
def dataModule (s : State) (k : Slot) : List Byte := linkBytes s k ++ serviceBytes (s.mod k) ++ shelfBytes s.rc

/-- READ MODULE (R78). -/
def reqReadModule : Request := ⟨17, 0, false, 4, indexBelow 12, fun _ i _ s => answer (dataModule s (slotOf i)) s⟩

/-! ### READ SUPPLY (R58, R120) -/

/-- OPEN or CLOSED. -/
def commandByte (r : ContactorRec) : List Byte := position (if r.closed then 1 else 0)

/-- An open time. -/
def openBytes (r : ContactorRec) : List Byte := optNum 4 (r.openMs.map fun n => (n : Int))

/-- The supply record (R99). -/
def supplyBytes (c : Sc) : List Byte :=
  position c.source.ctorIdx ++ position c.mains.ctorIdx ++ be2 c.mainsCount ++ flag c.startUp ++ flag c.mainsLost ++
  commandByte c.mc ++ commandByte c.gc ++ be2 c.mc.age ++ be2 c.gc.age ++ openBytes c.mc ++ openBytes c.gc ++
  optField 2 (c.transfer.map fun p => position p.1.ctorIdx ++ position p.2.ctorIdx) ++ flag c.mc.mismatch ++ flag c.gc.mismatch ++
  flag c.inhibit ++ flag c.lockOut ++ be2 c.genGood

/-- The restriction set (R177): bit k for the k-th member of R42's list. -/
def restrictionByte (r : Restriction) : List Byte :=
  be1 ((if r.thermal then 1 else 0) + (if r.tempA then 2 else 0) + (if r.tempB then 4 else 0))

/-- The charge record (R42, R58). -/
def chargeBytes (c : Cc) : List Byte :=
  position c.mode.ctorIdx ++ optNum 2 (c.boostRemaining.map fun n => (n : Int)) ++ be2 c.taperExit ++ position (if c.armed then 0 else 1) ++
  flag c.refreshDone ++ restrictionByte c.restriction ++ be2 c.tc ++ be2 c.setpoint ++ be2 c.limitA ++
  (match c.limitB with
   | some n => be2 n
   | none => []) ++ be2 c.total

/-- READ SUPPLY (R120). -/
def reqReadSupply : Request := ⟨18, 0, false, 3, noObject, fun _ _ _ s => answer (supplyBytes s.sc ++ chargeBytes s.cc) s⟩

/-! ### READ GENERATOR (R120) -/

/-- The four indications (R130). -/
def indicationBytes (x : Indications) : List Byte := flag x.start ++ flag x.mainsFail ++ flag x.others ++ flag x.idle

/-- An output: on or off (R108). -/
def outputByte (on : Bool) : List Byte := position (if on then 0 else 1)

/-- The sequence record (R108). -/
def sequenceBytes (q : Seq) : List Byte :=
  position q.state.ctorIdx ++ be2 q.seconds ++ be1 q.attempts ++ be1 q.limit ++ flag q.warmDone ++ flag q.offLoad ++ be2 q.qualWait ++
  optNum 2 (q.runSec.map fun n => (n : Int)) ++ flag q.minElapsed ++ be1 q.holdOff ++ be1 q.stopPulse ++ flag q.failStart ++
  flag q.failStop ++ outputByte q.glow ++ outputByte q.crank ++ outputByte q.stop

/-- The data of READ GENERATOR: the items R120 lists. Of the requests it sends the start-wanted indication alone, though R128 says that the top
serviceable request is reported by READ GENERATOR: the model's choice (notes/assumptions/47.md). -/
def dataGenerator (s : State) : List Byte :=
  sequenceBytes s.sc.seq ++ indicationBytes s.sc.ind ++ be4 (s.cfg .genMode) ++ levelByte s.running ++ levelByte s.faultLevel

/-- READ GENERATOR (R120). -/
def reqReadGenerator : Request := ⟨19, 0, false, 3, noObject, fun _ _ _ s => answer (dataGenerator s) s⟩

/-! ### READ REQUESTS (R131) -/

/-- The position of an origin in the list of R123. -/
def originPosition : Origin → Nat
  | .internal => 0
  | .schedule => 1
  | .port q => 2 + q.ctorIdx

/-- A run request record with its serviceable mark (R123, R131). -/
def requestBytes (r : RunReq) : List Byte :=
  position r.reason.ctorIdx ++ position (originPosition r.origin) ++ position r.cls.ctorIdx ++ flag r.onLoad ++
  optNum 2 (r.minMinutes.map fun n => (n : Int)) ++ be2 r.served ++ optField 4 (r.created.map plantBytes) ++
  position (if r.isServed then 1 else 0) ++ flag r.serviceable

/-- The outage timer's minutes remaining (R131); the rounding is left open (notes/assumptions/5.md). -/
def outageMinutes (seconds : Nat) : Nat := seconds / 60 + (if seconds % 60 ≠ 0 ∧ Config.outageRoundsUp seconds then 1 else 0)

/-- The data of READ REQUESTS (R131). One byte stands for R131's number of records and for R177's count before a list, and the top position counts
from 0: the model's choices (notes/assumptions/50.md). -/
def dataRequests (s : State) : List Byte :=
  be1 s.rqu.reqs.length ++ s.rqu.reqs.flatMap requestBytes ++ optNum 1 ((topServiceable s.rqu.reqs).map fun n => (n : Int)) ++
  indicationBytes s.rqu.ind ++ optNum 2 (s.rqu.outage.map fun n => (outageMinutes n : Int)) ++ be4 (s.cfg .genMode)

/-- READ REQUESTS (R131). -/
def reqReadRequests : Request := ⟨20, 0, false, 2, noObject, fun _ _ _ s => answer (dataRequests s) s⟩

/-! ### READ SCHEDULE, READ FUEL (R134, R138) -/

/-- A schedule entry (R132). -/
def entryBytes (e : SchedEntry) : List Byte :=
  position e.kind.ctorIdx ++ plantBytes e.due ++ be2 e.interval ++ optNum 2 (e.duration.map fun n => (n : Int)) ++
  position e.origin.ctorIdx ++ flag e.notify

/-- The data of READ SCHEDULE (R134). -/
def dataSchedule (s : State) (i : Nat) : List Byte :=
  (match s.rqu.schedule[i]? with
   | some e => entryBytes e
   | none => []) ++ be1 s.rqu.schedule.length

/-- READ SCHEDULE (R134). -/
def reqReadSchedule : Request :=
  ⟨21, 0, false, 2, fun s i _ => i < s.rqu.schedule.length, fun _ i _ s => answer (dataSchedule s i) s⟩

/-- The data of READ FUEL (R138). -/
def dataFuel (r : Rqu) : List Byte :=
  be4 r.fuel ++ be1 r.residue ++ flag r.reserve ++ flag r.exhausted ++ be2 r.burnRate ++ be1 r.reconcileCount ++ flag r.reconcileDue ++
  optNum 4 (r.lastReading.map fun n => (n : Int))

/-- READ FUEL (R138). -/
def reqReadFuel : Request := ⟨22, 0, false, 2, noObject, fun _ _ _ s => answer (dataFuel s.rqu) s⟩

/-! ### READ DETECTOR (R148) -/

/-- A relay: in alarm or energised (R149). -/
def relayByte (alarm : Bool) : List Byte := position (if alarm then 0 else 1)

/-- The data of READ DETECTOR (R142, R148). -/
def dataDetector (s : State) (d : Fin 32) : List Byte :=
  let c := s.detCfg d
  let e := s.det d
  be4 (c.get .cls) ++ be4 (c.get .sev) ++ be4 (c.get .qualify) ++ be4 (c.get .hold) ++
  (if 24 ≤ d.val then be4 (c.get .polarity) else []) ++ position e.state.ctorIdx ++ be2 e.count ++ flag e.seen ++
  optField 4 (e.first.map plantBytes) ++ flag e.unseen.exchange ++ flag e.unseen.telemetry ++ flag e.unseen.craft ++
  (if 13 ≤ d.val ∧ d.val ≤ 15 then be2 e.marks.toNat else []) ++ flag (s.actionOf d) ++ relayByte s.du.majorAlarm ++
  relayByte s.du.minorAlarm

/-- A port's unseen flag for a detector cleared (R148). -/
def clearUnseen (q : Port) (d : Fin 32) (s : State) : State :=
  s.setDet d { s.det d with unseen := (s.det d).unseen.update q fun _ => false }

/-- READ DETECTOR (R148). -/
def reqReadDetector : Request :=
  ⟨23, 0, false, 2, indexBelow 32, fun q i _ s => ⟨.done, dataDetector s (detOf i), clearUnseen q (detOf i) s⟩⟩

/-! ### READ MEASUREMENT (R13) -/

/-- The bytes of a channel's value (R1, R177). -/
def valueWidth (ch : Fin 12) : Nat :=
  match ch.val with
  | 7 | 9 => 4
  | _ => 2

/-- The data of READ MEASUREMENT for an analog channel (R13). -/
def dataAnalog (ch : Fin 12) (r : AnalogRec) : List Byte :=
  position r.cond.ctorIdx ++ optNum (valueWidth ch) r.value ++ be2 r.heldAge ++
  (if (Config.windowSize ch).isSome then be1 r.window.length else [])

/-- The data of READ MEASUREMENT for a digital input (R13). -/
def dataInput (r : InputRec) : List Byte :=
  levelByte r.level ++ (match r.recent.getLast? with
    | some x => levelByte (some x)
    | none => be1 255) ++ flag r.changed

/-- The data of READ MEASUREMENT (R13). -/
def dataMeasurement (s : State) (i : Nat) : List Byte :=
  if i < 12 then dataAnalog (Fin.ofNat 12 i) (s.analog (Fin.ofNat 12 i)) else dataInput (s.input (Fin.ofNat 13 (i - 16)))

/-- READ MEASUREMENT (R13). -/
def reqReadMeasurement : Request :=
  ⟨24, 0, false, 1, fun _ i _ => i ≤ 11 || (16 ≤ i && i ≤ 28), fun _ i _ s => answer (dataMeasurement s i) s⟩

/-! ### READ SETTING, READ CLOCK (R167, R170) -/

/-- The data of READ SETTING (R167). -/
def dataSetting (s : State) (k : SettingId) : List Byte :=
  let r := s.ss.table.ends k
  be4 (s.ss.table.get k) ++ be4 r.1 ++ be4 r.2 ++ be4 k.default ++ position s.ss.loadSource.ctorIdx

/-- The setting a request names by its index and its first argument byte (R174). -/
def settingOf (i : Nat) (args : List Byte) : Option SettingId := settingId i (args.headD 0#8).toNat

/-- Whether the table of R174 lists a setting number: the object test of READ SETTING and SET SETTING. A field that selects nothing is refused
later, at test 4 of R160. -/
def settingListed : State → Nat → List Byte → Bool :=
  fun _ i _ => i ≤ 70 || (72 ≤ i && i ≤ 75) || (96 ≤ i && i ≤ 127)

/-- READ SETTING (R167). -/
def reqReadSetting : Request :=
  ⟨25, 1, false, 1, settingListed, fun _ i a s => match settingOf i a with
    | some k => answer (dataSetting s k) s
    | none => refuse .range s⟩

/-- READ CLOCK (R170). -/
def reqReadClock : Request :=
  ⟨26, 0, false, 1, noObject, fun _ _ _ s => answer (be2 s.clk.day ++ be2 s.clk.minute ++ flag s.clk.isSet) s⟩

/-! ### READ PENDING, READ SNAPSHOT (R164, R165, R175) -/

/-- How many detectors have a port's unseen flag set (R148, R164). -/
def State.unseenCount (s : State) (q : Port) : Nat := s.du.dets.toList.countP fun e => e.unseen.get q

/-- The last proof result in READ PENDING (R175); the result byte of an absent one is 0, the model's choice (notes/assumptions/51.md). -/
def proofBytes (x : Option (Fin 32 × Bool)) : List Byte :=
  match x with
  | some (d, interrupted) => be1 d.val ++ be1 (if interrupted then 1 else 0)
  | none => [255#8, 0#8]

/-- The last schedule done in READ PENDING (R175); the bytes after the first of an absent one are 0, the model's choice (notes/assumptions/51.md). -/
def schedDoneBytes (x : Option (SchedKind × PlantTime)) : List Byte :=
  match x with
  | some (k, due) => position k.ctorIdx ++ plantBytes due
  | none => [255#8, 0#8, 0#8, 0#8, 0#8]

/-- The data of READ PENDING (R164, R175). -/
def dataPending (s : State) (q : Port) : List Byte :=
  let p := s.port q
  be2 p.pendingSet.toNat ++ be1 (s.unseenCount q) ++ be1 (if s.pc.siteHold then 1 else 0) ++ proofBytes p.proofResult ++
  schedDoneBytes p.schedDone

/-- The pending set emptied, the attention line inactive (R164). -/
def PortRec.emptied (p : PortRec) : PortRec := { p with pendingSet := 0#13 }.attend

/-- READ PENDING (R164). -/
def reqReadPending : Request :=
  ⟨27, 0, false, 1, noObject, fun q _ _ s => ⟨.done, dataPending s q, s.onPort q PortRec.emptied⟩⟩

/-- A string's account in a snapshot (R175). -/
def snapshotAccount (a : Option Account) : List Byte :=
  match a with
  | some x => be1 1 ++ accountBlock x
  | none => be1 0 ++ List.replicate 26 0#8

/-- The data of READ SNAPSHOT (R165, R175). -/
def dataSnapshot (x : Snapshot) (asked : Bool) : List Byte :=
  flag asked ++ be2 x.day ++ be2 x.minute ++ flag x.clockSet ++ snapshotAccount (some x.acctA) ++ snapshotAccount x.acctB ++
  position x.source.ctorIdx ++ position x.seq.ctorIdx ++ x.services.flatMap (fun (n : Nat) => be1 n) ++ be4 x.fuel ++ be1 x.residue ++
  x.stages.flatMap fun st => position st.ctorIdx

/-- READ SNAPSHOT (R165). -/
def reqReadSnapshot : Request :=
  ⟨28, 0, false, 1, noObject, fun q _ _ s => match (s.port q).slot with
    | some x => answer (dataSnapshot x (s.port q).asked) s
    | none => refuse .state s⟩

/-! ### READ SHED (R153) -/

/-- A shed stage record (R153). -/
def stageBytes (x : Stage) : List Byte :=
  position x.state.ctorIdx ++ be2 x.discCount ++ flag x.waiting ++ optNum 1 (x.follow.map fun n => (n : Int)) ++ be2 x.recCount

/-- The settings of a shed stage (R153). -/
def stageCfgBytes (c : StageCfg) : List Byte := be4 c.discV ++ be4 c.recV ++ be4 c.discSoc ++ be4 c.recSoc

/-- The data of READ SHED (R153). -/
def dataShed (s : State) : List Byte :=
  s.shc.stages.toList.flatMap stageBytes ++ s.ss.table.stages.toList.flatMap stageCfgBytes ++ be2 s.shc.spacing

/-- READ SHED (R153). -/
def reqReadShed : Request := ⟨29, 0, false, 3, noObject, fun _ _ _ s => answer (dataShed s) s⟩

end Sys2Proof.Machine
end

