-- ==== Sys2Proof/Machine/Restart.lean ====
section
/-! DEFINITION. Restarts (spec 10_settings_plant_time_and_start_up.md, 10.3): power-on, cold restart, warm restart. -/

namespace Sys2Proof.Machine

/-! ### Start-up (R169, R171) -/

/-- Step 1, load (R169, R170): the settings from the later valid image copy or the defaults; an unfinished write or save is abandoned (R37,
R168). The free value stands for R37's silence on two valid copies neither of which follows the other. -/
def loadSs (draws : Nat) (x : Ss) : Ss :=
  let c := x.image.laterContent (freeCopy draws)
  { x with
    table := match c with
      | some i => i.table
      | none => .defaults
    loadSource := if c.isSome then .image else .defaults
    save := none
    ckptWrite := none
    ckptWaiting := none }

/-- The schedule loaded (R169). -/
def loadSchedule (draws : Nat) (x : Ss) : List SchedEntry :=
  match x.image.laterContent (freeCopy draws) with
  | some i => i.schedule
  | none => []

/-- The checkpoint restored from (R38). -/
def loadCkpt (draws : Nat) (x : Ss) : Option Ckpt := x.ckpt.laterContent (freeCopy (draws + 1))

/-- The state with every unit set up by steps 1 to 3 of start-up, but for what step 3 starts (R14, R38, R59, R76, R97, R121, R140, R152, R157,
R166, R169, R170). -/
def setUp (s : State) : State :=
  let ss := loadSs s.freeDraws s.ss
  let t := ss.table
  let c := loadCkpt s.freeDraws s.ss
  let au := startAu t c
  let cc := startCc t au.acctB.isSome
  { mu := .initial
    au := au
    cc := cc
    sbc := startSbc (BitVec.ofNat 12 (t.val .slotFitted))
    rc := startRc t cc.setpoint (c.map Ckpt.runMinutes)
    sc := .initial (t.val .attempts)
    rqu := startRqu t (loadSchedule s.freeDraws s.ss) c
    du := .initial
    shc := .initial
    pc := .initial
    ss := ss
    clk := ⟨0, 0, false⟩
    startStep := .discovery
    freeDraws := s.freeDraws + 2
    pending := s.pending }

/-- A power-on or a cold restart (R171): steps 1 to 3, and the beginning of step 4 (notes/assumptions/4.md). -/
def startUp (s : State) : State := beginRound (startOutage (refreshRequests (formFuelIndications (setUp s))))

/-! ### Warm restart (R166, R172) -/

/-- A port record at a warm restart (R166). -/
def PortRec.warm (p : PortRec) : PortRec := PortRec.raise .restart { p with slot := none, asked := false }

/-- The PC's warm restart (R162, R166). -/
def pcWarm (s : State) : State := s.withPc ⟨s.pc.ports.map PortRec.warm, false⟩

/-- Stage 1 of R172. -/
def warmStage1 (s : State) : State := rcWarm (rquWarm (pcWarm (shcWarm (ccWarm s))))

/-- Stages 1 to 3 of R172. -/
def warmStage3 (s : State) : State := rquWarmEnd (rcWarmEnd (scWarm (warmStage1 s)))

/-- The warm restart of the blocks (R172). -/
def warmBlocks (s : State) : State := handSilent (duWarm (warmStage3 s))

end Sys2Proof.Machine
end

