-- ==== Sys2Proof/Machine/PortActs.lean ====
section
/-! DEFINITION. The twenty-three acting requests of the catalogue (R161), each by its owning block's rule. -/

namespace Sys2Proof.Machine

/-! ### SET SETTING, SAVE SETTINGS, SET CLOCK (R167, R168, R170) -/

/-- The working table replaced (R167). -/
def State.withTable (s : State) (t : Settings) : State := s.withSs { s.ss with table := t }

/-- A polarity write noted for the next evaluation (R144, step 1). -/
def notePolarity (d : Fin 32) (s : State) : State :=
  s.withDu { s.du with polarityWritten := vgen fun i => s.du.polarityWritten[i] || alarmDetector i == d }

/-- What a block does at the write of a setting itself (R81, R87, R106, R124, R135, R144, R145, R149, R167), whether a detector's action was in
force before the write given. -/
def writeEffect (i : SettingId) (was : Bool) (s : State) : State :=
  match i with
  | .plain .modRating | .plain .loadTargetPm | .plain .spare | .plain .minRunModules => demandEval s
  | .plain .genCap => demandEval (capTest s)
  | .plain .vbusMin | .plain .vbusMax => clampPlaced s
  | .plain .tankL => clampFuel s
  | .plain .genMode => refreshRequests s
  | .plain .breakMs => endBreak s
  | .det d .cls => classWritten d was s
  | .det _ .sev => formRelays s
  | .det d .polarity => notePolarity d s
  | _ => s

/-- Whether the action of the detector a setting belongs to is in force. -/
def State.actionFor (s : State) : SettingId → Bool
  | .det d _ => s.actionOf d
  | _ => false

/-- A write of a setting (R167): the value taken into the working table, and what follows at the write. -/
def writeSetting (i : SettingId) (v : Int) (s : State) : State :=
  writeEffect i (s.actionFor i) (s.withTable (s.ss.table.set i (s.ss.table.taken i v)))

/-- SET SETTING (R142, R167, R174). -/
def reqSetSetting : Request :=
  ⟨32, 5, true, 1, settingListed, fun _ i a s => match settingOf i a, a with
    | some k, [f, b3, b2, b1, b0] =>
      let v := int32 b3 b2 b1 b0
      actedWith (s.ss.table.clamps k v) ([f] ++ be4 (s.ss.table.taken k v)) (writeSetting k v s)
    | _, _ => refuse .range s⟩

/-- A save begun (R168). -/
def beginSave (q : Port) (s : State) : State :=
  let e := freeCopy s.freeDraws
  (s.withSs { s.ss with
    image := s.ss.image.beginWrite e ⟨s.ss.table, s.rqu.schedule⟩
    save := some ⟨s.ss.image.target e, q⟩ }).withFreeDraws (s.freeDraws + 1)

/-- SAVE SETTINGS (R168). -/
def reqSaveSettings : Request :=
  ⟨33, 0, true, 1, noObject, fun q _ _ s => if s.ss.save.isSome then busy s else acted (beginSave q s)⟩

/-- The completion of a save (R168); nothing when none is in progress (the model's choice, notes/assumptions/48.md). -/
def saveComplete (s : State) : State :=
  match s.ss.save with
  | none => s
  | some v => raiseTo v.port .settingsSaved (s.withSs { s.ss with image := s.ss.image.complete v.copy, save := none })

/-- The clock set (R170). -/
def setClockTo (day minute : Nat) (s : State) : State := refreshRequests (s.withClk ⟨day, minute, true⟩)

/-- SET CLOCK (R170). -/
def reqSetClock : Request :=
  ⟨34, 4, true, 1, noObject, fun _ _ a s => match a with
    | [d1, d0, m1, m0] =>
      let minute := min 1439 (nat16 m1 m0)
      actedWith (minute != nat16 m1 m0) ([d1, d0] ++ be2 minute) (setClockTo (nat16 d1 d0) minute s)
    | _ => refuse .unknown s⟩

/-! ### SET CHARGE MODE (R51) -/

/-- SET CHARGE MODE (R51). -/
def reqSetChargeMode : Request :=
  ⟨35, 2, true, 2, noObject, fun _ _ a s => match a with
    | [mode, hours] =>
      if mode = 0#8 then (match askFloat s with
        | some t => acted t
        | none => refuse .state s)
      else if mode = 1#8 then
        let h := clampTo 1 24 hours.toNat
        match askBoost (h * 60) s with
        | some t => actedWith (h != hours.toNat) ([mode] ++ be1 h) t
        | none => refuse .state s
      else refuse .range s
    | _ => refuse .unknown s⟩

/-! ### REQUEST RUN, CANCEL RUN, RELEASE GENERATOR (R118, R127) -/

/-- REQUEST RUN (R127). -/
def reqRequestRun : Request :=
  ⟨36, 2, true, 2, noObject, fun q _ a s => match a with
    | [m1, m0] =>
      let n := clampTo 15 480 (nat16 m1 m0)
      actedWith (n != nat16 m1 m0) (be2 n) (refreshRequests (createRecord .portRun (.port q) .normal true (some n) s))
    | _ => refuse .unknown s⟩

/-- A port's PORT-RUN record removed (R127). -/
def removeRun (q : Port) (s : State) : State :=
  refreshRequests (s.withRqu { s.rqu with reqs := s.rqu.reqs.filter fun r => !r.isPair .portRun (.port q) })

/-- CANCEL RUN (R127). -/
def reqCancelRun : Request :=
  ⟨37, 0, true, 2, noObject, fun q _ _ s =>
    if s.rqu.reqs.any (RunReq.isPair .portRun (.port q)) then acted (removeRun q s) else refuse .state s⟩

/-- RELEASE GENERATOR (R118). -/
def reqReleaseGenerator : Request :=
  ⟨38, 0, true, 3, noObject, fun _ _ _ s => if s.releaseRefused then refuse .state s else acted (releaseSequence s)⟩

/-! ### HOLD MODULE, RETURN MODULE, RELEASE MODULE, ROTATE NOW (R93, R94, R95) -/

/-- HOLD MODULE (R93). -/
def reqHoldModule : Request :=
  ⟨39, 0, true, 4, indexBelow 12, fun q i _ s =>
    let k := slotOf i
    if (s.mod k).service.canHold then acted (holdSlot q k s)
    else if (s.mod k).service = .held then acted s
    else refuse .state s⟩

/-- Whether a RETURN MODULE is refused with HELD by the site key (R94). -/
def State.keyProtects (s : State) (q : Port) (k : Slot) : Bool :=
  q != .craft && (s.mod k).holdOrigin == some .craft && (s.input inKey).level == some true

/-- RETURN MODULE (R94). -/
def reqReturnModule : Request :=
  ⟨40, 0, true, 4, indexBelow 12, fun q i _ s =>
    let k := slotOf i
    if (s.mod k).service ≠ .held then refuse .state s
    else if s.keyProtects q k then refuse .held s
    else acted (enterStandby k s)⟩

/-- RELEASE MODULE (R94). -/
def reqReleaseModule : Request :=
  ⟨41, 0, true, 4, indexBelow 12, fun _ i _ s =>
    let k := slotOf i
    if (s.mod k).service ≠ .retired ∨ (s.mod k).fault.isSome then refuse .state s else acted (releaseSlot k s)⟩

/-- ROTATE NOW (R95). -/
def reqRotateNow : Request :=
  ⟨42, 0, true, 4, noObject, fun _ _ _ s =>
    if s.sc.source ≠ .mains then refuse .state s
    else if s.rc.swap.isSome then busy s
    else acted (rotationEvent s)⟩

/-! ### RELEASE DETECTOR, PROVE DETECTOR (R147, R150) -/

/-- RELEASE DETECTOR (R147). -/
def reqReleaseDetector : Request :=
  ⟨43, 0, true, 2, indexBelow 32, fun _ i _ s =>
    let d := detOf i
    if (s.det d).state ≠ .latched ∨ s.condition d then refuse .state s else acted (releaseDet d s)⟩

/-- PROVE DETECTOR (R150). -/
def reqProveDetector : Request :=
  ⟨44, 0, true, 2, indexBelow 32, fun q i _ s =>
    let d := detOf i
    if s.du.proof.isSome then busy s
    else if (s.det d).state ≠ .clear then refuse .state s
    else acted (s.withDu { s.du with proof := some ⟨d, q, (s.detCfg d).qualify⟩ })⟩

/-! ### SHED STAGE, RESTORE STAGE (R156) -/

/-- An object index that names a stage, 1..4 (R156). -/
def stageExists : State → Nat → List Byte → Bool := fun _ i _ => 1 ≤ i && i ≤ 4

/-- The stage an index 1..4 names. -/
def stageOf (i : Nat) : Fin 4 := Fin.ofNat 4 (i - 1)

/-- SHED STAGE (R156). -/
def reqShedStage : Request := ⟨45, 0, true, 3, stageExists, fun _ i _ s => acted (shedUpTo (stageOf i) s)⟩

/-- RESTORE STAGE (R156). -/
def reqRestoreStage : Request :=
  ⟨46, 0, true, 3, stageExists, fun _ i _ s =>
    if s.mayRestore (stageOf i) then acted (closeStage (stageOf i) s) else refuse .state s⟩

/-! ### ADD SCHEDULE ENTRY, REMOVE SCHEDULE ENTRY, RESET FUEL (R132, R134, R138) -/

/-- The schedule replaced. -/
def State.withSchedule (s : State) (l : List SchedEntry) : State := s.withRqu { s.rqu with schedule := l }

/-- ADD SCHEDULE ENTRY (R132). -/
def reqAddScheduleEntry : Request :=
  ⟨47, 10, true, 2, noObject, fun q _ a s => match a with
    | [kind, d1, d0, m1, m0, i1, i0, u1, u0, notify] =>
      match kindOf kind with
      | none => refuse .range s
      | some k =>
        let minute := min 1439 (nat16 m1 m0)
        let interval := takenInterval (nat16 i1 i0)
        let duration := takenDuration k (nat16 u1 u0)
        let told := min 1 notify.toNat
        let due : PlantTime := ⟨nat16 d1 d0, minute⟩
        let clamped := minute != nat16 m1 m0 || interval != nat16 i1 i0 || duration != nat16 u1 u0 || told != notify.toNat
        let e : SchedEntry := ⟨k, due, interval, if k = .rotate then none else some duration, q, told == 1⟩
        if hasEntry k due s.rqu.schedule then refuse .duplicate s
        else if 24 ≤ s.rqu.schedule.length then refuse .full s
        else actedWith clamped ([kind, d1, d0] ++ be2 minute ++ be2 interval ++ be2 duration ++ be1 told)
          (s.withSchedule (insertEntry e s.rqu.schedule))
    | _ => refuse .unknown s⟩

/-- REMOVE SCHEDULE ENTRY (R134). -/
def reqRemoveScheduleEntry : Request :=
  ⟨48, 5, true, 2, noObject, fun _ _ a s => match a with
    | [kind, d1, d0, m1, m0] =>
      match kindOf kind with
      | none => refuse .range s
      | some k =>
        let minute := min 1439 (nat16 m1 m0)
        let due : PlantTime := ⟨nat16 d1 d0, minute⟩
        if hasEntry k due s.rqu.schedule then
          actedWith (minute != nat16 m1 m0) ([kind, d1, d0] ++ be2 minute)
            (s.withSchedule (s.rqu.schedule.filter fun e => !(e.kind == k && e.due == due)))
        else refuse .range s
    | _ => refuse .unknown s⟩

/-- RESET FUEL (R138). -/
def reqResetFuel : Request :=
  ⟨49, 4, true, 2, noObject, fun _ _ a s => match a with
    | [b3, b2, b1, b0] =>
      let n := min (s.cfg .tankL * 10) (nat32 b3 b2 b1 b0)
      actedWith (n != nat32 b3 b2 b1 b0) (be4 n) (setFuel n s)
    | _ => refuse .unknown s⟩

/-! ### TAKE SNAPSHOT, SET MASK, the site hold (R162, R164, R165) -/

/-- TAKE SNAPSHOT (R165). -/
def reqTakeSnapshot : Request :=
  ⟨50, 0, false, 1, noObject, fun q _ _ s => acted (s.onPort q fun p => { p with asked := true })⟩

/-- SET MASK (R164). -/
def reqSetMask : Request :=
  ⟨51, 2, false, 1, noObject, fun q _ a s => match a with
    | [m1, m0] =>
      let m := takenMask (nat16 m1 m0)
      actedWith (m.toNat != nat16 m1 m0) (be2 m.toNat) (s.onPort q fun p => { p with mask := m }.attend)
    | _ => refuse .unknown s⟩

/-- The site hold replaced. -/
def State.withSiteHold (s : State) (on : Bool) : State := s.withPc { s.pc with siteHold := on }

/-- TAKE SITE HOLD (R162). -/
def reqTakeSiteHold : Request :=
  ⟨52, 0, false, 1, noObject, fun q _ _ s =>
    if q = .craft ∧ (s.input inKey).level = some true then acted (s.withSiteHold true) else refuse .state s⟩

/-- GIVE SITE HOLD (R162). -/
def reqGiveSiteHold : Request :=
  ⟨53, 0, true, 1, noObject, fun q _ _ s => if q = .craft then acted (s.withSiteHold false) else refuse .state s⟩

/-- WARM RESTART (R161, R172): the response depends on nothing the restart changes, and the port record keeps it. -/
def reqWarmRestart : Request := ⟨54, 0, true, 4, noObject, fun _ _ _ s => acted (warmBlocks s)⟩

/-! ### The catalogue (R161, R173) -/

/-- The requests in the order of their codes (R173). -/
def catalogue : List Request :=
  [reqReadAccount, reqReadModule, reqReadSupply, reqReadGenerator, reqReadRequests, reqReadSchedule, reqReadFuel, reqReadDetector,
   reqReadMeasurement, reqReadSetting, reqReadClock, reqReadPending, reqReadSnapshot, reqReadShed] ++
  [reqSetSetting, reqSaveSettings, reqSetClock, reqSetChargeMode, reqRequestRun, reqCancelRun, reqReleaseGenerator, reqHoldModule,
   reqReturnModule, reqReleaseModule, reqRotateNow, reqReleaseDetector, reqProveDetector, reqShedStage, reqRestoreStage,
   reqAddScheduleEntry, reqRemoveScheduleEntry, reqResetFuel, reqTakeSnapshot, reqSetMask, reqTakeSiteHold, reqGiveSiteHold,
   reqWarmRestart]

/-- The request of a code (R160 test 1, R173). -/
def lookupRequest (code : Nat) : Option Request := catalogue.find? fun c => c.code == code

/-- The bytes of a transfer from its start byte on (R159): bytes before it are discarded. -/
def fromStart (bytes : List Byte) : List Byte := bytes.dropWhile fun b => b != 165#8

/-- The bytes of a transfer taken at a port (R159); a transfer with no start byte carries no frame (notes/assumptions/25.md). -/
def takeTransfer (q : Port) (bytes : List Byte) (s : State) : State :=
  match fromStart bytes with
  | [] => s
  | x => takeFrame lookupRequest q x s

end Sys2Proof.Machine
end

