-- ==== Sys2Proof/Machine/Periodic.lean ====
section
/-! DEFINITION. The meanings of the commands that time gives: starts, the periodic steps, and the rows that name what comes about at one of them. -/

namespace Sys2Proof.Machine

/-- A command that names what comes about at a periodic step (notes/assumptions/1.md): it is that step where the thing comes about, and changes
nothing where it does not. -/
def takenWhen (due : Bool) (whole s : State) : Host.Outcome State Fault Refusal := .next (if due then whole else s)

/-! ### Starts and periodic steps -/

/-- POWER_ON (R171). -/
def execPowerOn (s : State) : Host.Outcome State Fault Refusal := .next (startUp s)

/-- COLD_RESTART (R171): the same as a power-on. -/
def execColdRestart (s : State) : Host.Outcome State Fault Refusal := .next (startUp s)

/-- MEASUREMENT_PERIOD (R2, with R10, R80, R101, R144). -/
def execMeasurementPeriod (r : Readings) (s : State) : Host.Outcome State Fault Refusal := .next (periodStep r s)

/-- ACCOUNT_UPDATE (R21, with R44, R124, R154, R165). -/
def execAccountUpdate (s : State) : Host.Outcome State Fault Refusal := .next (updateStep s)

/-- MINUTE_EVENT (R170). -/
def execMinuteEvent (s : State) : Host.Outcome State Fault Refusal := .next (minuteStep s)

/-- DEMAND_EVALUATION (R81). -/
def execDemandEvaluation (s : State) : Host.Outcome State Fault Refusal := .next (demandEval s)

/-- CHECKPOINT_WRITE_COMPLETE (R37). -/
def execCheckpointWriteComplete (s : State) : Host.Outcome State Fault Refusal := .next (checkpointComplete s)

/-- SETTINGS_SAVE_COMPLETE (R168). -/
def execSettingsSaveComplete (s : State) : Host.Outcome State Fault Refusal := .next (saveComplete s)

/-! ### What comes about at a measurement period: MU, RQU -/

/-- A held record becomes LAPSED at this completion (R9). -/
def lapsesNow (ch : Fin 12) (r : Readings) (s : State) : Bool :=
  (s.analog ch).cond != .lapsed && ((completePeriod r s).analog ch).cond == .lapsed

/-- CHANNEL_LAPSE (R9). -/
def execChannelLapse (ch : Fin 12) (r : Readings) (s : State) : Host.Outcome State Fault Refusal :=
  takenWhen (lapsesNow ch r s) (periodStep r s) s

/-- OUTAGE_TIMER_EXPIRY (R125). -/
def execOutageTimerExpiry (r : Readings) (s : State) : Host.Outcome State Fault Refusal :=
  takenWhen (outageDue (completePeriod r s)) (periodStep r s) s

/-! ### What comes about at the RC's second -/

/-- The RC's second as far as the slots below one. -/
def slotPrefix (k : Slot) (r : Readings) (s : State) : State := slotSeconds k.val (rcCount (periodOutage r s))

/-- START_WINDOW_EXPIRY (R89). -/
def execStartWindowExpiry (k : Slot) (r : Readings) (s : State) : Host.Outcome State Fault Refusal :=
  takenWhen (startWindowDue k (slotPrefix k r s)) (periodStep r s) s

/-- DROPOUT_WATCH_EXPIRY (R89). -/
def execDropoutWatchExpiry (k : Slot) (r : Readings) (s : State) : Host.Outcome State Fault Refusal :=
  takenWhen (dropoutDue k (slotPrefix k r s)) (periodStep r s) s

/-- STOP_CHECK (R89). -/
def execStopCheck (k : Slot) (r : Readings) (s : State) : Host.Outcome State Fault Refusal :=
  takenWhen (stopCheckDue k (slotPrefix k r s)) (periodStep r s) s

/-- REST_EXPIRY (R92). -/
def execRestExpiry (k : Slot) (r : Readings) (s : State) : Host.Outcome State Fault Refusal :=
  takenWhen (restDue k (slotPrefix k r s)) (periodStep r s) s

/-- REMOVAL_HOLD_EXPIRY (R86). -/
def execRemovalHoldExpiry (r : Readings) (s : State) : Host.Outcome State Fault Refusal :=
  takenWhen (removalDue (rcSlots (periodOutage r s))) (periodStep r s) s

/-- WALK_IN_TIMER_EXPIRY (R85). -/
def execWalkInTimerExpiry (r : Readings) (s : State) : Host.Outcome State Fault Refusal :=
  takenWhen (walkInDue (rcRemoval (periodOutage r s))) (periodStep r s) s

/-! ### What comes about at the supply evaluation -/

/-- The mains as the evaluation of this second judges it (R102). -/
def mainsNow (r : Readings) (s : State) : MainsVerdict := mainsVerdict (openTimes (periodRc r s))

/-- MAINS_FAIL (R102, R103). -/
def execMainsFail (r : Readings) (s : State) : Host.Outcome State Fault Refusal := takenWhen (mainsNow r s == .fail) (periodStep r s) s

/-- MAINS_RETURN (R102, R103). -/
def execMainsReturn (r : Readings) (s : State) : Host.Outcome State Fault Refusal :=
  takenWhen (mainsNow r s == .comesBack) (periodStep r s) s

/-- START_UP_PERIOD_END (R104). -/
def execStartUpPeriodEnd (r : Readings) (s : State) : Host.Outcome State Fault Refusal :=
  takenWhen (startUpEnds (mainsStep (openTimes (periodRc r s)))) (periodStep r s) s

/-- The supply evaluation of this second as far as the sequence's timers (R101, R108). -/
def timedNow (r : Readings) (s : State) : State := seqTimers (supplyFront (periodRc r s))

/-- BREAK_PHASE_END (R106), some milliseconds after the latest supply evaluation. Under transfer inhibit the phase goes on, and the time told stands
for the event that clears the inhibit (notes/assumptions/6.md). -/
def execBreakPhaseEnd (ms : Nat) (s : State) : Host.Outcome State Fault Refusal := .next (endBreak (tellTime ms s))

/-- PRE-START's time runs out at this evaluation (R108, R111). -/
def prestartRunsOut (t : State) : Bool := seqMove t == .prestartOut || zeroPrestart (seqAct t)

/-- PRESTART_EXPIRY (R111). -/
def execPrestartExpiry (r : Readings) (s : State) : Host.Outcome State Fault Refusal :=
  takenWhen (prestartRunsOut (timedNow r s)) (periodStep r s) s

/-- CRANK_EXPIRY (R111). -/
def execCrankExpiry (r : Readings) (s : State) : Host.Outcome State Fault Refusal :=
  takenWhen (seqMove (timedNow r s) == .crankOut) (periodStep r s) s

/-- CRANK_REST_EXPIRY (R111). -/
def execCrankRestExpiry (r : Readings) (s : State) : Host.Outcome State Fault Refusal :=
  takenWhen (seqMove (timedNow r s) == .restOut) (periodStep r s) s

/-- WARM-UP's time runs out at this evaluation (R108, R112). -/
def warmupRunsOut (t : State) : Bool := seqMove t == .warmOut || zeroWarmup (zeroPrestartStep (seqAct t))

/-- WARMUP_EXPIRY (R112). -/
def execWarmupExpiry (r : Readings) (s : State) : Host.Outcome State Fault Refusal :=
  takenWhen (warmupRunsOut (timedNow r s)) (periodStep r s) s

/-- A transfer TO-GENERATOR begins at this evaluation (R112). -/
def generatorTransferBegins (p : State) : Bool :=
  !(seqTimers (supplyFront p)).sc.transferring .toGenerator && (sequenceStep (supplyFront p)).sc.transferring .toGenerator

/-- TRANSFER_TO_GENERATOR_BEGIN (R112). -/
def execTransferToGeneratorBegin (r : Readings) (s : State) : Host.Outcome State Fault Refusal :=
  takenWhen (generatorTransferBegins (periodRc r s)) (periodStep r s) s

/-- A qualify wait ends in a failed start at this evaluation (R112). -/
def qualifyWaitEnds (t : State) : Bool :=
  (seqMove t == .warmed || seqMove t == .warmOut) && (seqAct t).sc.seq.state == .lockedOut

/-- QUALIFY_WAIT_EXPIRY (R112). -/
def execQualifyWaitExpiry (r : Readings) (s : State) : Host.Outcome State Fault Refusal :=
  takenWhen (qualifyWaitEnds (timedNow r s)) (periodStep r s) s

/-- Minimum run elapsed becomes set at this evaluation (R113). -/
def minimumRunEnds (t : State) : Bool := !t.sc.seq.minElapsed && (seqTimers t).sc.seq.minElapsed

/-- MINIMUM_RUN_ELAPSED (R113). -/
def execMinimumRunElapsed (r : Readings) (s : State) : Host.Outcome State Fault Refusal :=
  takenWhen (minimumRunEnds (supplyFront (periodRc r s))) (periodStep r s) s

/-- COOL-DOWN's time runs out at this evaluation (R108, R115). -/
def cooldownRunsOut (t : State) : Bool :=
  seqMove t == .cooldownOut || zeroCooldown (zeroWarmupStep (zeroPrestartStep (seqAct t)))

/-- COOLDOWN_EXPIRY (R115). -/
def execCooldownExpiry (r : Readings) (s : State) : Host.Outcome State Fault Refusal :=
  takenWhen (cooldownRunsOut (timedNow r s)) (periodStep r s) s

/-- The set is found not to stop at this evaluation (R115). -/
def stopFailsNow (t : State) : Bool := seqMove t == .stopFails && !t.sc.seq.failStop

/-- FAIL_TO_STOP (R115). -/
def execFailToStop (r : Readings) (s : State) : Host.Outcome State Fault Refusal :=
  takenWhen (stopFailsNow (timedNow r s)) (periodStep r s) s

/-- STOP_PULSE_END (R121). -/
def execStopPulseEnd (r : Readings) (s : State) : Host.Outcome State Fault Refusal :=
  takenWhen (stopPulseEnds (supplyFront (periodRc r s))) (periodStep r s) s

/-! ### What comes about at the detector evaluation -/

/-- DETECTOR_QUALIFIED (R144). -/
def execDetectorQualified (d : Fin 32) (r : Readings) (s : State) : Host.Outcome State Fault Refusal :=
  takenWhen (qualifiesNow d (periodSupply r s)) (periodStep r s) s

/-- DETECTOR_HOLD_EXPIRY (R144). -/
def execDetectorHoldExpiry (d : Fin 32) (r : Readings) (s : State) : Host.Outcome State Fault Refusal :=
  takenWhen (holdExpiresNow d (periodSupply r s)) (periodStep r s) s

/-- PROOF_PROVED (R150). -/
def execProofProved (d : Fin 32) (r : Readings) (s : State) : Host.Outcome State Fault Refusal :=
  takenWhen (provesNow d (periodSupply r s)) (periodStep r s) s

/-! ### What comes about at an account update -/

/-- A string's account at this update is charged with a substituted 0 (R22). -/
def substitutesNow (g : StringId) (s : State) : Bool :=
  let t := followStrings s
  match t.account g with
  | some a => !(currentNow t g a).measured
  | none => false

/-- CURRENT_SUBSTITUTED (R22). -/
def execCurrentSubstituted (g : StringId) (s : State) : Host.Outcome State Fault Refusal :=
  takenWhen (substitutesNow g s) (updateStep s) s

/-- A string's account anchors at this update (R29). -/
def anchorsAtUpdate (g : StringId) (s : State) : Bool :=
  let t := followStrings s
  match t.account g with
  | some a => (accountStep t g a).2
  | none => false

/-- ANCHOR (R29). -/
def execAnchor (g : StringId) (s : State) : Host.Outcome State Fault Refusal := takenWhen (anchorsAtUpdate g s) (updateStep s) s

/-- An ANCHORED account becomes STALE at this update (R31). -/
def driftsNow (g : StringId) (s : State) : Bool :=
  let t := followStrings s
  match t.account g with
  | some a => a.conf == .anchored && (accountStep t g a).1.conf == .stale
  | none => false

/-- DRIFT_STALE (R31). -/
def execDriftStale (g : StringId) (s : State) : Host.Outcome State Fault Refusal := takenWhen (driftsNow g s) (updateStep s) s

/-- CHECKPOINT_COUNT_EXPIRY (R36). -/
def execCheckpointCountExpiry (s : State) : Host.Outcome State Fault Refusal :=
  takenWhen (checkpointCountDue (followStrings s)) (updateStep s) s

/-- TAPER_EXIT (R49). -/
def execTaperExit (s : State) : Host.Outcome State Fault Refusal := takenWhen (taperExitDue (updateSnap s)) (updateStep s) s

/-- The SHC evaluation of this update as far as the stages below one. -/
def stagePrefix (k : Fin 4) (s : State) : State := shcBelow k.val (updateRequests s)

/-- SHED_DELAY_EXPIRY (R154). -/
def execShedDelayExpiry (k : Fin 4) (s : State) : Host.Outcome State Fault Refusal :=
  takenWhen ((stagePrefix k s).delayOut k) (updateStep s) s

/-- FOLLOW_TIME_EXPIRY (R154). -/
def execFollowTimeExpiry (k : Fin 4) (s : State) : Host.Outcome State Fault Refusal :=
  takenWhen ((stagePrefix k s).followOut k) (updateStep s) s

/-- A stage reconnects at this update (R155). -/
def reconnectsAtUpdate (k : Fin 4) (s : State) : Bool :=
  (countReconnect k (stageDisconnect (updateRequests s).shc.stages k (stagePrefix k s))).reconnects k

/-- REC_DELAY_EXPIRY (R155). -/
def execRecDelayExpiry (k : Fin 4) (s : State) : Host.Outcome State Fault Refusal :=
  takenWhen (reconnectsAtUpdate k s) (updateStep s) s

/-! ### What comes about at a minute event -/

/-- BOOST_TIMER_EXPIRY (R48). -/
def execBoostTimerExpiry (s : State) : Host.Outcome State Fault Refusal :=
  takenWhen (boostTimerDue (clockStep s)) (minuteStep s) s

/-- ROTATION_EVENT (R95). -/
def execRotationEvent (s : State) : Host.Outcome State Fault Refusal := takenWhen (rotationDue (minuteRun s)) (minuteStep s) s

/-- RECONCILE (R137). -/
def execReconcile (s : State) : Host.Outcome State Fault Refusal :=
  takenWhen (reconcileNow (burnStep (minuteRotation s))) (minuteStep s) s

/-- A record of an origin completes by its served minutes at this minute event (R129). -/
def servedCompletes (o : Origin) (s : State) : Bool :=
  (formFuelIndications (reconcileStep (burnStep (minuteRotation s)))).rqu.reqs.any fun r =>
    r.origin == o && r.countMinute.isComplete

/-- SERVED_MINUTES_COMPLETE (R129). -/
def execServedMinutesComplete (o : Origin) (s : State) : Host.Outcome State Fault Refusal :=
  takenWhen (servedCompletes o s) (minuteStep s) s

/-! ### The shelf bus -/

/-- POLL_ATTEMPT_START (R63, R65, R68). -/
def execPollAttemptStart (s : State) : Host.Outcome State Fault Refusal := .next (startAttempt s)

/-- REPLY_FRAME_RECEIVED (R67). -/
def execReplyFrameReceived (bytes : List Byte) (s : State) : Host.Outcome State Fault Refusal := .next (frameArrives bytes s)

/-- REPLY_WINDOW_CLOSE (R67). -/
def execReplyWindowClose (s : State) : Host.Outcome State Fault Refusal := .next (windowCloses s)

end Sys2Proof.Machine
end

