-- ==== Sys2Proof/Machine/Masters.lean ====
section
/-! DEFINITION. The meanings of the request frames taken at the master ports: the 37 requests of the catalogue and the frames outside it (R159 to
R161). -/

namespace Sys2Proof.Machine

/-- READ_ACCOUNT (R35). -/
def execReadAccount (q : Port) (f : Frame) (s : State) : Host.Outcome State Fault Refusal := .next (takeFor reqReadAccount q f s)

/-- READ_MODULE (R78). -/
def execReadModule (q : Port) (f : Frame) (s : State) : Host.Outcome State Fault Refusal := .next (takeFor reqReadModule q f s)

/-- READ_SUPPLY (R120). -/
def execReadSupply (q : Port) (f : Frame) (s : State) : Host.Outcome State Fault Refusal := .next (takeFor reqReadSupply q f s)

/-- READ_GENERATOR (R120). -/
def execReadGenerator (q : Port) (f : Frame) (s : State) : Host.Outcome State Fault Refusal := .next (takeFor reqReadGenerator q f s)

/-- READ_REQUESTS (R131). -/
def execReadRequests (q : Port) (f : Frame) (s : State) : Host.Outcome State Fault Refusal := .next (takeFor reqReadRequests q f s)

/-- READ_SCHEDULE (R134). -/
def execReadSchedule (q : Port) (f : Frame) (s : State) : Host.Outcome State Fault Refusal := .next (takeFor reqReadSchedule q f s)

/-- READ_FUEL (R138). -/
def execReadFuel (q : Port) (f : Frame) (s : State) : Host.Outcome State Fault Refusal := .next (takeFor reqReadFuel q f s)

/-- READ_DETECTOR (R148). -/
def execReadDetector (q : Port) (f : Frame) (s : State) : Host.Outcome State Fault Refusal := .next (takeFor reqReadDetector q f s)

/-- READ_MEASUREMENT (R13). -/
def execReadMeasurement (q : Port) (f : Frame) (s : State) : Host.Outcome State Fault Refusal := .next (takeFor reqReadMeasurement q f s)

/-- READ_SETTING (R167). -/
def execReadSetting (q : Port) (f : Frame) (s : State) : Host.Outcome State Fault Refusal := .next (takeFor reqReadSetting q f s)

/-- READ_CLOCK (R170). -/
def execReadClock (q : Port) (f : Frame) (s : State) : Host.Outcome State Fault Refusal := .next (takeFor reqReadClock q f s)

/-- READ_PENDING (R164). -/
def execReadPending (q : Port) (f : Frame) (s : State) : Host.Outcome State Fault Refusal := .next (takeFor reqReadPending q f s)

/-- READ_SNAPSHOT (R165). -/
def execReadSnapshot (q : Port) (f : Frame) (s : State) : Host.Outcome State Fault Refusal := .next (takeFor reqReadSnapshot q f s)

/-- READ_SHED (R153). -/
def execReadShed (q : Port) (f : Frame) (s : State) : Host.Outcome State Fault Refusal := .next (takeFor reqReadShed q f s)

/-- SET_SETTING (R167). -/
def execSetSetting (q : Port) (f : Frame) (s : State) : Host.Outcome State Fault Refusal := .next (takeFor reqSetSetting q f s)

/-- SAVE_SETTINGS (R168). -/
def execSaveSettings (q : Port) (f : Frame) (s : State) : Host.Outcome State Fault Refusal := .next (takeFor reqSaveSettings q f s)

/-- SET_CLOCK (R170). -/
def execSetClock (q : Port) (f : Frame) (s : State) : Host.Outcome State Fault Refusal := .next (takeFor reqSetClock q f s)

/-- SET_CHARGE_MODE (R51). -/
def execSetChargeMode (q : Port) (f : Frame) (s : State) : Host.Outcome State Fault Refusal := .next (takeFor reqSetChargeMode q f s)

/-- REQUEST_RUN (R127). -/
def execRequestRun (q : Port) (f : Frame) (s : State) : Host.Outcome State Fault Refusal := .next (takeFor reqRequestRun q f s)

/-- CANCEL_RUN (R127). -/
def execCancelRun (q : Port) (f : Frame) (s : State) : Host.Outcome State Fault Refusal := .next (takeFor reqCancelRun q f s)

/-- RELEASE_GENERATOR (R118). -/
def execReleaseGenerator (q : Port) (f : Frame) (s : State) : Host.Outcome State Fault Refusal := .next (takeFor reqReleaseGenerator q f s)

/-- HOLD_MODULE (R93). -/
def execHoldModule (q : Port) (f : Frame) (s : State) : Host.Outcome State Fault Refusal := .next (takeFor reqHoldModule q f s)

/-- RETURN_MODULE (R94). -/
def execReturnModule (q : Port) (f : Frame) (s : State) : Host.Outcome State Fault Refusal := .next (takeFor reqReturnModule q f s)

/-- RELEASE_MODULE (R94). -/
def execReleaseModule (q : Port) (f : Frame) (s : State) : Host.Outcome State Fault Refusal := .next (takeFor reqReleaseModule q f s)

/-- ROTATE_NOW (R95). -/
def execRotateNow (q : Port) (f : Frame) (s : State) : Host.Outcome State Fault Refusal := .next (takeFor reqRotateNow q f s)

/-- RELEASE_DETECTOR (R147). -/
def execReleaseDetector (q : Port) (f : Frame) (s : State) : Host.Outcome State Fault Refusal := .next (takeFor reqReleaseDetector q f s)

/-- PROVE_DETECTOR (R150). -/
def execProveDetector (q : Port) (f : Frame) (s : State) : Host.Outcome State Fault Refusal := .next (takeFor reqProveDetector q f s)

/-- SHED_STAGE (R156). -/
def execShedStage (q : Port) (f : Frame) (s : State) : Host.Outcome State Fault Refusal := .next (takeFor reqShedStage q f s)

/-- RESTORE_STAGE (R156). -/
def execRestoreStage (q : Port) (f : Frame) (s : State) : Host.Outcome State Fault Refusal := .next (takeFor reqRestoreStage q f s)

/-- ADD_SCHEDULE_ENTRY (R132). -/
def execAddScheduleEntry (q : Port) (f : Frame) (s : State) : Host.Outcome State Fault Refusal := .next (takeFor reqAddScheduleEntry q f s)

/-- REMOVE_SCHEDULE_ENTRY (R134). -/
def execRemoveScheduleEntry (q : Port) (f : Frame) (s : State) : Host.Outcome State Fault Refusal := .next (takeFor reqRemoveScheduleEntry q f s)

/-- RESET_FUEL (R138). -/
def execResetFuel (q : Port) (f : Frame) (s : State) : Host.Outcome State Fault Refusal := .next (takeFor reqResetFuel q f s)

/-- TAKE_SNAPSHOT (R165). -/
def execTakeSnapshot (q : Port) (f : Frame) (s : State) : Host.Outcome State Fault Refusal := .next (takeFor reqTakeSnapshot q f s)

/-- SET_MASK (R164). -/
def execSetMask (q : Port) (f : Frame) (s : State) : Host.Outcome State Fault Refusal := .next (takeFor reqSetMask q f s)

/-- TAKE_SITE_HOLD (R162). -/
def execTakeSiteHold (q : Port) (f : Frame) (s : State) : Host.Outcome State Fault Refusal := .next (takeFor reqTakeSiteHold q f s)

/-- GIVE_SITE_HOLD (R162). -/
def execGiveSiteHold (q : Port) (f : Frame) (s : State) : Host.Outcome State Fault Refusal := .next (takeFor reqGiveSiteHold q f s)

/-- WARM_RESTART (R172). -/
def execWarmRestart (q : Port) (f : Frame) (s : State) : Host.Outcome State Fault Refusal := .next (takeFor reqWarmRestart q f s)

/-- UNCATALOGUED_REQUEST_FRAME (R159): the bytes of a transfer, tested as R159 and R160 test every frame. -/
def execUncataloguedRequestFrame (q : Port) (bytes : List Byte) (s : State) : Host.Outcome State Fault Refusal :=
  .next (takeTransfer q bytes s)

end Sys2Proof.Machine
end

