-- ==== Sys2Proof/Machine/Dispatch.lean ====
section
/-! DEFINITION. The dispatch: one direct call of a meaning for each command. -/

namespace Sys2Proof.Machine

def exec (i : Instr) (s : State) : Host.Outcome State Fault Refusal :=
  match i with
  | .powerOn => Sys2Proof.Machine.execPowerOn s
  | .coldRestart => Sys2Proof.Machine.execColdRestart s
  | .measurementPeriod r => Sys2Proof.Machine.execMeasurementPeriod r s
  | .channelLapse ch r => Sys2Proof.Machine.execChannelLapse ch r s
  | .accountUpdate => Sys2Proof.Machine.execAccountUpdate s
  | .currentSubstituted g => Sys2Proof.Machine.execCurrentSubstituted g s
  | .anchor g => Sys2Proof.Machine.execAnchor g s
  | .driftStale g => Sys2Proof.Machine.execDriftStale g s
  | .checkpointCountExpiry => Sys2Proof.Machine.execCheckpointCountExpiry s
  | .checkpointWriteComplete => Sys2Proof.Machine.execCheckpointWriteComplete s
  | .taperExit => Sys2Proof.Machine.execTaperExit s
  | .boostTimerExpiry => Sys2Proof.Machine.execBoostTimerExpiry s
  | .shedDelayExpiry k => Sys2Proof.Machine.execShedDelayExpiry k s
  | .followTimeExpiry k => Sys2Proof.Machine.execFollowTimeExpiry k s
  | .recDelayExpiry k => Sys2Proof.Machine.execRecDelayExpiry k s
  | .minuteEvent => Sys2Proof.Machine.execMinuteEvent s
  | .reconcile => Sys2Proof.Machine.execReconcile s
  | .servedMinutesComplete o => Sys2Proof.Machine.execServedMinutesComplete o s
  | .rotationEvent => Sys2Proof.Machine.execRotationEvent s
  | .outageTimerExpiry r => Sys2Proof.Machine.execOutageTimerExpiry r s
  | .demandEvaluation => Sys2Proof.Machine.execDemandEvaluation s
  | .walkInTimerExpiry r => Sys2Proof.Machine.execWalkInTimerExpiry r s
  | .removalHoldExpiry r => Sys2Proof.Machine.execRemovalHoldExpiry r s
  | .startWindowExpiry k r => Sys2Proof.Machine.execStartWindowExpiry k r s
  | .dropoutWatchExpiry k r => Sys2Proof.Machine.execDropoutWatchExpiry k r s
  | .stopCheck k r => Sys2Proof.Machine.execStopCheck k r s
  | .restExpiry k r => Sys2Proof.Machine.execRestExpiry k r s
  | .pollAttemptStart => Sys2Proof.Machine.execPollAttemptStart s
  | .replyFrameReceived bytes => Sys2Proof.Machine.execReplyFrameReceived bytes s
  | .replyWindowClose => Sys2Proof.Machine.execReplyWindowClose s
  | .mainsFail r => Sys2Proof.Machine.execMainsFail r s
  | .mainsReturn r => Sys2Proof.Machine.execMainsReturn r s
  | .startUpPeriodEnd r => Sys2Proof.Machine.execStartUpPeriodEnd r s
  | .breakPhaseEnd ms => Sys2Proof.Machine.execBreakPhaseEnd ms s
  | .prestartExpiry r => Sys2Proof.Machine.execPrestartExpiry r s
  | .crankExpiry r => Sys2Proof.Machine.execCrankExpiry r s
  | .crankRestExpiry r => Sys2Proof.Machine.execCrankRestExpiry r s
  | .warmupExpiry r => Sys2Proof.Machine.execWarmupExpiry r s
  | .transferToGeneratorBegin r => Sys2Proof.Machine.execTransferToGeneratorBegin r s
  | .qualifyWaitExpiry r => Sys2Proof.Machine.execQualifyWaitExpiry r s
  | .minimumRunElapsed r => Sys2Proof.Machine.execMinimumRunElapsed r s
  | .cooldownExpiry r => Sys2Proof.Machine.execCooldownExpiry r s
  | .failToStop r => Sys2Proof.Machine.execFailToStop r s
  | .stopPulseEnd r => Sys2Proof.Machine.execStopPulseEnd r s
  | .detectorQualified d r => Sys2Proof.Machine.execDetectorQualified d r s
  | .detectorHoldExpiry d r => Sys2Proof.Machine.execDetectorHoldExpiry d r s
  | .proofProved d r => Sys2Proof.Machine.execProofProved d r s
  | .settingsSaveComplete => Sys2Proof.Machine.execSettingsSaveComplete s
  | .readAccount p f => Sys2Proof.Machine.execReadAccount p f s
  | .readModule p f => Sys2Proof.Machine.execReadModule p f s
  | .readSupply p f => Sys2Proof.Machine.execReadSupply p f s
  | .readGenerator p f => Sys2Proof.Machine.execReadGenerator p f s
  | .readRequests p f => Sys2Proof.Machine.execReadRequests p f s
  | .readSchedule p f => Sys2Proof.Machine.execReadSchedule p f s
  | .readFuel p f => Sys2Proof.Machine.execReadFuel p f s
  | .readDetector p f => Sys2Proof.Machine.execReadDetector p f s
  | .readMeasurement p f => Sys2Proof.Machine.execReadMeasurement p f s
  | .readSetting p f => Sys2Proof.Machine.execReadSetting p f s
  | .readClock p f => Sys2Proof.Machine.execReadClock p f s
  | .readPending p f => Sys2Proof.Machine.execReadPending p f s
  | .readSnapshot p f => Sys2Proof.Machine.execReadSnapshot p f s
  | .readShed p f => Sys2Proof.Machine.execReadShed p f s
  | .setSetting p f => Sys2Proof.Machine.execSetSetting p f s
  | .saveSettings p f => Sys2Proof.Machine.execSaveSettings p f s
  | .setClock p f => Sys2Proof.Machine.execSetClock p f s
  | .setChargeMode p f => Sys2Proof.Machine.execSetChargeMode p f s
  | .requestRun p f => Sys2Proof.Machine.execRequestRun p f s
  | .cancelRun p f => Sys2Proof.Machine.execCancelRun p f s
  | .releaseGenerator p f => Sys2Proof.Machine.execReleaseGenerator p f s
  | .holdModule p f => Sys2Proof.Machine.execHoldModule p f s
  | .returnModule p f => Sys2Proof.Machine.execReturnModule p f s
  | .releaseModule p f => Sys2Proof.Machine.execReleaseModule p f s
  | .rotateNow p f => Sys2Proof.Machine.execRotateNow p f s
  | .releaseDetector p f => Sys2Proof.Machine.execReleaseDetector p f s
  | .proveDetector p f => Sys2Proof.Machine.execProveDetector p f s
  | .shedStage p f => Sys2Proof.Machine.execShedStage p f s
  | .restoreStage p f => Sys2Proof.Machine.execRestoreStage p f s
  | .addScheduleEntry p f => Sys2Proof.Machine.execAddScheduleEntry p f s
  | .removeScheduleEntry p f => Sys2Proof.Machine.execRemoveScheduleEntry p f s
  | .resetFuel p f => Sys2Proof.Machine.execResetFuel p f s
  | .takeSnapshot p f => Sys2Proof.Machine.execTakeSnapshot p f s
  | .setMask p f => Sys2Proof.Machine.execSetMask p f s
  | .takeSiteHold p f => Sys2Proof.Machine.execTakeSiteHold p f s
  | .giveSiteHold p f => Sys2Proof.Machine.execGiveSiteHold p f s
  | .warmRestart p f => Sys2Proof.Machine.execWarmRestart p f s
  | .uncataloguedRequestFrame p bytes => Sys2Proof.Machine.execUncataloguedRequestFrame p bytes s

end Sys2Proof.Machine
end

