-- ==== Sys2Proof/WellFormed.lean ====
section
/-! DEFINITION. Well-formed commands: what a command of each row carries when it names the event the row names. -/

namespace Sys2Proof

open Machine

/-- A request frame is one of a request of the catalogue: the argument bytes the request takes, and a check byte that makes the frame's sum 0
(R158, R173). -/
def Frame.isOf (f : Frame) (c : Request) : Bool := f.args.length == c.argCount && passesCheck (frameBytes c.code f)

/-- A transfer that carries a frame outside the catalogue (R159): it has a start byte, and the frame is short, long or fails its check, or its
request code with its argument bytes is no request of the catalogue. -/
def isUncatalogued (bytes : List Byte) : Bool :=
  !(fromStart bytes).isEmpty && (match frameParts (fromStart bytes) with
    | none => true
    | some p => match lookupRequest p.code.toNat with
      | none => true
      | some c => p.args.length != c.argCount)

/-- What each command must carry. A reply frame has 7 bytes or more (R66, R67: fewer complete none); a BREAK phase ends less than a second after
the completion before it (R2, R106); served minutes complete no record the part itself created (R129). -/
def Instr.wellFormed (i : Instr) : Bool :=
  match i with
  | .powerOn => true
  | .coldRestart => true
  | .measurementPeriod _ => true
  | .channelLapse _ _ => true
  | .accountUpdate => true
  | .currentSubstituted _ => true
  | .anchor _ => true
  | .driftStale _ => true
  | .checkpointCountExpiry => true
  | .checkpointWriteComplete => true
  | .taperExit => true
  | .boostTimerExpiry => true
  | .shedDelayExpiry _ => true
  | .followTimeExpiry _ => true
  | .recDelayExpiry _ => true
  | .minuteEvent => true
  | .reconcile => true
  | .servedMinutesComplete o => o != .internal
  | .rotationEvent => true
  | .outageTimerExpiry _ => true
  | .demandEvaluation => true
  | .walkInTimerExpiry _ => true
  | .removalHoldExpiry _ => true
  | .startWindowExpiry _ _ => true
  | .dropoutWatchExpiry _ _ => true
  | .stopCheck _ _ => true
  | .restExpiry _ _ => true
  | .pollAttemptStart => true
  | .replyFrameReceived bytes => 7 ≤ bytes.length
  | .replyWindowClose => true
  | .mainsFail _ => true
  | .mainsReturn _ => true
  | .startUpPeriodEnd _ => true
  | .breakPhaseEnd ms => ms < 1000
  | .prestartExpiry _ => true
  | .crankExpiry _ => true
  | .crankRestExpiry _ => true
  | .warmupExpiry _ => true
  | .transferToGeneratorBegin _ => true
  | .qualifyWaitExpiry _ => true
  | .minimumRunElapsed _ => true
  | .cooldownExpiry _ => true
  | .failToStop _ => true
  | .stopPulseEnd _ => true
  | .detectorQualified _ _ => true
  | .detectorHoldExpiry _ _ => true
  | .proofProved _ _ => true
  | .settingsSaveComplete => true
  | .readAccount _ f => f.isOf reqReadAccount
  | .readModule _ f => f.isOf reqReadModule
  | .readSupply _ f => f.isOf reqReadSupply
  | .readGenerator _ f => f.isOf reqReadGenerator
  | .readRequests _ f => f.isOf reqReadRequests
  | .readSchedule _ f => f.isOf reqReadSchedule
  | .readFuel _ f => f.isOf reqReadFuel
  | .readDetector _ f => f.isOf reqReadDetector
  | .readMeasurement _ f => f.isOf reqReadMeasurement
  | .readSetting _ f => f.isOf reqReadSetting
  | .readClock _ f => f.isOf reqReadClock
  | .readPending _ f => f.isOf reqReadPending
  | .readSnapshot _ f => f.isOf reqReadSnapshot
  | .readShed _ f => f.isOf reqReadShed
  | .setSetting _ f => f.isOf reqSetSetting
  | .saveSettings _ f => f.isOf reqSaveSettings
  | .setClock _ f => f.isOf reqSetClock
  | .setChargeMode _ f => f.isOf reqSetChargeMode
  | .requestRun _ f => f.isOf reqRequestRun
  | .cancelRun _ f => f.isOf reqCancelRun
  | .releaseGenerator _ f => f.isOf reqReleaseGenerator
  | .holdModule _ f => f.isOf reqHoldModule
  | .returnModule _ f => f.isOf reqReturnModule
  | .releaseModule _ f => f.isOf reqReleaseModule
  | .rotateNow _ f => f.isOf reqRotateNow
  | .releaseDetector _ f => f.isOf reqReleaseDetector
  | .proveDetector _ f => f.isOf reqProveDetector
  | .shedStage _ f => f.isOf reqShedStage
  | .restoreStage _ f => f.isOf reqRestoreStage
  | .addScheduleEntry _ f => f.isOf reqAddScheduleEntry
  | .removeScheduleEntry _ f => f.isOf reqRemoveScheduleEntry
  | .resetFuel _ f => f.isOf reqResetFuel
  | .takeSnapshot _ f => f.isOf reqTakeSnapshot
  | .setMask _ f => f.isOf reqSetMask
  | .takeSiteHold _ f => f.isOf reqTakeSiteHold
  | .giveSiteHold _ f => f.isOf reqGiveSiteHold
  | .warmRestart _ f => f.isOf reqWarmRestart
  | .uncataloguedRequestFrame _ bytes => isUncatalogued bytes

end Sys2Proof
end

