-- ==== Sys2Proof/Safety.lean ====
section
/-! DEFINITION. The terms of the claims: what a safe state is, the tables of the spec as claims restate them, and when a request is new at a port. -/

namespace Sys2Proof.Machine

/-! ### Safe states -/

/-- The two contactors are not both commanded CLOSED (R106, section 6.3). -/
def Interlocked (s : State) : Prop := ¬(s.sc.mc.closed = true ∧ s.sc.gc.closed = true)

/-- The fields of an account lie in the ranges of R16 (R26). -/
def Account.InRange (a : Account) : Prop :=
  a.q ≤ a.cfull ∧ a.residue ≤ 255 ∧ a.band ≤ 5 ∧ a.soc ≤ 1000 ∧ a.runtime ≤ 65535 ∧ a.hours ≤ 65535 ∧ a.anchorSec ≤ 3599 ∧
    a.taperMin ≤ 65535 ∧ a.taperSec ≤ 59 ∧ a.lost ≤ 65535

/-- What a checkpoint holds of a string lies in the ranges of R16. -/
def CkptString.InRange (c : CkptString) : Prop := c.residue ≤ 255 ∧ c.hours ≤ 65535

/-- What a checkpoint holds of the accounts lies in the ranges of R16. -/
def Ckpt.AccountsInRange (c : Ckpt) : Prop := c.strA.InRange ∧ ∀ b, c.strB = some b → b.InRange

/-- A property of every content the two copies of an area hold. -/
def NvArea.All {α : Type} (v : NvArea α) (p : α → Prop) : Prop :=
  (∀ x, v.first.content = some x → p x) ∧ ∀ x, v.second.content = some x → p x

/-- A copy is the later valid one (R37): it is valid, and where the other copy is valid too its sequence number follows that one's. -/
def LaterValid {α : Type} (v : NvArea α) (i : CopyId) : Prop :=
  (v.copy i).isValid = true ∧
    ((v.copy i.other).isValid = true → (v.copy i).seq = ((v.copy i.other).seq + 1) % 4294967296)

/-- An account restored from what a checkpoint holds of its string (R40), given C_full for band 5. -/
def restoredOf (cfull : Nat) (c : CkptString) : Account where
  q := min c.q cfull
  residue := c.residue
  cfull := cfull
  band := 5
  assumed := true
  soc := min c.q cfull * 1000 / cfull
  runtime := 65535
  conf := .unsure
  hours := c.hours
  anchorSec := 0
  taperMin := 0
  taperSec := 0
  lost := 0
  restored := some c.conf

/-- The account of a string that an update handles (R17): STRINGS 1 discards string B's, STRINGS 2 creates it as R41 states where there is none. -/
def handledAccount (s : State) : StringId → Option Account
  | .strA => some s.au.acctA
  | .strB => if s.cfg .strings = 1 then none else some (s.au.acctB.getD (Account.half (cfullOf s.ss.table .strB 5)))

/-- Every existing account lies in range, and so does every checkpoint that may restore one (R16, R26). -/
def AccountsInRange (s : State) : Prop :=
  (∀ g a, s.account g = some a → a.InRange) ∧ s.ss.ckpt.All Ckpt.AccountsInRange ∧
    ∀ c, s.ss.ckptWaiting = some c → c.AccountsInRange

/-- The effective capacity of every existing account lies in its range of R16 (R18). -/
def CapacitiesInRange (s : State) : Prop := ∀ g a, s.account g = some a → 450000 ≤ a.cfull ∧ a.cfull ≤ 108000000

/-- Every port's attention line is active exactly while an unmasked kind is pending (R158). -/
def AttentionRight (s : State) : Prop :=
  ∀ q, ((s.port q).attention = true ↔ (s.port q).pendingSet &&& ~~~(s.port q).mask ≠ 0#13)

/-- A stage is open only while every lower stage is open (R153). -/
def ShedNested (s : State) : Prop :=
  ∀ j k : Fin 4, j < k → (s.stage k).state ≠ .closed → (s.stage j).state ≠ .closed

/-- The glow output is on in PRE-START alone and the crank output in CRANKING alone (R108). -/
def EngineOutputsRight (s : State) : Prop :=
  (s.sc.seq.glow = true ↔ s.sc.seq.state = .preStart) ∧ (s.sc.seq.crank = true ↔ s.sc.seq.state = .cranking)

/-- The stop output and the GC command by state (R108). In OFF the stop output is on through the pulse of R121 and while fail-to-stop is set only.
WARM-UP has GC OPEN but in the MAKE phase of its transfer, and a warm restart may leave GC CLOSED in the OFF or COOL-DOWN it adopts
(R122, notes/assumptions/15.md). -/
def StopAndGcRight (s : State) : Prop :=
  let q := s.sc.seq
  match q.state with
  | .off => q.stop = true → 0 < q.stopPulse ∨ q.failStop = true
  | .preStart | .cranking | .crankRest => q.stop = false ∧ s.sc.gc.closed = false
  | .warmUp => q.stop = false ∧ (s.sc.gc.closed = true → s.sc.transfer = some (.toGenerator, .mk))
  | .onLoad => q.stop = false ∧ s.sc.gc.closed = true
  | .coolDown => q.stop = false
  | .stopping => q.stop = true ∧ s.sc.gc.closed = false
  | .lockedOut => (q.stop = true ↔ s.running ≠ some false) ∧ s.sc.gc.closed = false

/-- Every queued slot is a STANDBY module, and none is queued twice (R80, R84). -/
def QueueOfStandby (s : State) : Prop :=
  s.rc.queue.Nodup ∧ ∀ k ∈ s.rc.queue, (s.mod k).service = Service.standby

/-- A swap in flight stands on MAINS, its H RUNNING and its L STARTING (R95, R96). -/
def SwapRight (s : State) : Prop :=
  ∀ h l : Slot, s.rc.swap = some (h, l) → s.sc.source = .mains ∧ (s.mod h).service = .running ∧ (s.mod l).service = .starting

/-- Whether a skip mark passes a module over: the marks count while an unmarked STANDBY module is there to start (R84). -/
def PassedOver (s : State) (k : Slot) : Prop :=
  (s.mod k).skip = true ∧ ∃ j : Slot, (s.mod j).service = .standby ∧ (s.mod j).skip = false

/-- The order in which R84 chooses STANDBY modules: skip mark, run minutes, slot. -/
def ChosenBefore (s : State) (j k : Slot) : Prop :=
  (¬PassedOver s j ∧ PassedOver s k) ∨ ((PassedOver s j ↔ PassedOver s k) ∧
    ((s.mod j).runMinutes < (s.mod k).runMinutes ∨ (s.mod j).runMinutes = (s.mod k).runMinutes ∧ j < k))

/-- The walk-in queue `q` brought up to date for a room, as R84 states: trimmed from its end, or filled with STANDBY modules not queued, in the order
in which R84 chooses them, until the room or the modules run out. -/
def QueueFilled (s : State) (room : Nat) (q new : List Slot) : Prop :=
  (room ≤ q.length → new = q.take room) ∧
  (q.length ≤ room → ∃ more, new = q ++ more ∧ more.Pairwise (ChosenBefore s) ∧
    (∀ k ∈ more, (s.mod k).service = .standby ∧ k ∉ q) ∧
    (more.length = room - q.length ∨ more.length < room - q.length ∧ ∀ j : Slot, (s.mod j).service = .standby → j ∈ new) ∧
    ∀ j : Slot, (s.mod j).service = .standby → j ∉ new → ∀ k ∈ more, ChosenBefore s k j)

/-- What a start mismatch or a run dropout found in state `x` leaves of slot `k` in state `u`, the demand evaluation of its turn included (R84, R89,
R92): STANDBY, or the state of the MODULE-MISMATCH action when it is in force and the slot was not marked before. The skip mark stands, and the
module is not started again, while an unmarked module was and is left in STANDBY. -/
def SkippedBy (x : State) (k : Slot) (u : State) : Prop :=
  (if x.actionOf 14 = true ∧ x.marked 14 k = false then
     if (x.detCfg 14).cls = .recover then (u.mod k).service = .resting
     else (u.mod k).service = .retired ∧ (u.mod k).retireCause = some .moduleMismatch
   else (u.mod k).service = .standby ∨ (u.mod k).service = .starting) ∧
  (QueueOfStandby x → ∀ j : Slot, (x.mod j).service = .standby → (x.mod j).skip = false → (u.mod j).service = .standby →
    (u.mod j).skip = false → (u.mod k).skip = true ∧ (u.mod k).service ≠ .starting)

/-- A schedule: at most 24 entries in due order, no two of one kind and due time (R132). -/
def ScheduleRight (l : List SchedEntry) : Prop :=
  l.length ≤ 24 ∧ l.Pairwise fun a b => a.due.abs ≤ b.due.abs ∧ ¬(a.kind = b.kind ∧ a.due = b.due)

/-- The schedule and every saved schedule are right (R132, R168). -/
def SchedulesRight (s : State) : Prop := ScheduleRight s.rqu.schedule ∧ s.ss.image.All fun x => ScheduleRight x.schedule

/-- No two run requests have one reason and origin (R123). -/
def RequestsDistinct (s : State) : Prop := s.rqu.reqs.Pairwise fun a b => ¬(a.reason = b.reason ∧ a.origin = b.origin)

/-- A settings table lies in the ranges of section 10.4 and R142, with its dependent pairs kept (R56, R101, R126, R135, R136, R142, R153). -/
def Settings.Right (t : Settings) : Prop :=
  (∀ k : Setting, k.row.lo ≤ t.val k ∧ t.val k ≤ k.row.hi) ∧
  (t.val .vfCell ≤ t.val .vbCell ∧ t.val .vbusMin + 1000 ≤ t.val .vbusMax ∧ t.val .fLo + 10 ≤ t.val .fHi ∧
    t.val .critPm + 50 ≤ t.val .lowPm ∧ t.val .reserveL ≤ t.val .tankL ∧ t.val .burnIdle ≤ t.val .burnFull) ∧
  (∀ k : Fin 4, 40000 ≤ t.stages[k].discV ∧ t.stages[k].discV + 1000 ≤ t.stages[k].recV ∧ t.stages[k].recV ≤ 56000 ∧
    t.stages[k].discSoc + 50 ≤ t.stages[k].recSoc ∧ t.stages[k].recSoc ≤ 1000) ∧
  ∀ d : Fin 32, t.dets[d].qualify ∈ [1, 5, 30, 120] ∧ t.dets[d].hold ∈ [0, 10, 60, 300] ∧
    (t.dets[d].cls = .protect ↔ d = 3 ∨ d = 6 ∨ d = 19)

/-- The working table and every saved table are right (R167, R168). -/
def SettingsRight (s : State) : Prop := s.ss.table.Right ∧ s.ss.image.All fun x => x.table.Right

/-- Every placed setpoint lies in the bus range (R81). -/
def SetpointsInRange (s : State) : Prop :=
  ∀ k, s.cfg .vbusMin ≤ (s.mod k).setpoint ∧ (s.mod k).setpoint ≤ s.cfg .vbusMax

/-- The fuel account lies between 0 and the tank, its residue below 60 (R135), and so do the fuel level record (R4) and the checkpoints' residues
it is formed from. -/
def FuelInRange (s : State) : Prop :=
  s.rqu.fuel ≤ s.cfg .tankL * 10 ∧ s.rqu.residue ≤ 59 ∧
  (∀ v, (s.analog 11).value = some v → 0 ≤ v ∧ v ≤ 1000) ∧ (∀ w ∈ (s.analog 11).window, 0 ≤ w ∧ w ≤ 1000) ∧
  (s.ss.ckpt.All fun c => c.fuelResidue ≤ 59) ∧ ∀ c, s.ss.ckptWaiting = some c → c.fuelResidue ≤ 59

/-- No module is told to run while the source is NONE, and no more than GEN_CAP while it is GENERATOR (R85, R87); before the round result is
taken the source is NONE, held there by the start-up period (R74, R102, R110). -/
def RunFollowsSupply (s : State) : Prop :=
  (s.sc.source = .none → s.rc.nNeed = 0 ∧ ∀ k, (s.mod k).service.isOn = false) ∧
  (s.sc.source = .generator → s.onCount ≤ s.cfg .genCap) ∧
  (s.startStep ≠ .running → s.sc.source = .none ∧ s.sc.mc.closed = false ∧ s.sc.gc.closed = false ∧ s.sc.transfer = none ∧
    s.sc.startUp = true ∧ s.sc.mains = .down ∧ (s.sc.seq.state = .off ∨ s.sc.seq.state = .lockedOut))

/-- The generator sequence: outputs by state (R108), no more attempts than the limit taken at PRE-START (R111), and a transfer TO-GENERATOR only
in WARM-UP with warm-up done (R112). -/
def SequenceRight (s : State) : Prop :=
  EngineOutputsRight s ∧ s.sc.seq.attempts ≤ s.sc.seq.limit ∧
  (s.sc.seq.state = .preStart ∨ s.sc.seq.state = .crankRest → s.sc.seq.attempts < s.sc.seq.limit) ∧
  (s.sc.transferring .toGenerator = true → s.sc.seq.state = .warmUp ∧ s.sc.seq.warmDone = true)

/-- Some detector of a severity and of class ALARM, RECOVER or LATCH is ACTIVE, HOLDING or LATCHED (R149). -/
def SomeAlarmed (s : State) (v : Severity) : Prop :=
  ∃ d : Fin 32, (s.detCfg d).sev = v ∧ ((s.detCfg d).cls = .alarm ∨ (s.detCfg d).cls = .recover ∨ (s.detCfg d).cls = .latch) ∧
    ((s.det d).state = .active ∨ (s.det d).state = .holding ∨ (s.det d).state = .latched)

/-- The action of a PROTECT detector is in force (R145: id 3 in ACTIVE and LATCHED, ids 6 and 19 in ACTIVE and HOLDING). -/
def ProtectActs (s : State) : Prop :=
  (s.det 3).state = .active ∨ (s.det 3).state = .latched ∨ (s.det 6).state = .active ∨ (s.det 6).state = .holding ∨
    (s.det 19).state = .active ∨ (s.det 19).state = .holding

/-- The relays stand as R149 states: both in alarm before the first detector evaluation, and from then on as the detectors have it. -/
def RelaysRight (s : State) : Prop :=
  (s.du.majorAlarm = true ↔ s.du.evaluated = false ∨ SomeAlarmed s .major ∨ ProtectActs s) ∧
  (s.du.minorAlarm = true ↔ s.du.evaluated = false ∨ SomeAlarmed s .minor)

/-! ### The mains closure -/

/-- The state in which a measurement period's supply evaluation tests the mains closure, at the end of its step 7 (R101, R105,
notes/assumptions/46.md). -/
def closureNow (r : Readings) (s : State) : State := makeEnd (endBreak (sequenceStep (supplyFront (periodRc r s))))

/-! ### The discovery round -/

/-- The round stands as start-up begins it: no source, every module ABSENT, the actions of 13 and 14 not in force (R74, R97, R152). -/
def RoundUnderWay (s : State) : Prop :=
  s.startStep = .discovery ∧ s.sc.source = .none ∧ (∀ k : Slot, (s.mod k).service = .absent) ∧ s.actionOf 13 = false ∧
    s.actionOf 14 = false

/-- The round result as the RC takes it (R75), given the reply of each slot found: normal polling begins, a slot with no reply is ABSENT, one found ON or
LIMIT is adopted and, on NONE, in STOPPING at once (R87), any other is in STANDBY; its fault is judged (R88). -/
def RoundTaken (reply : Slot → Option Reply) (t : State) : Prop :=
  t.startStep = .running ∧ t.rc.nNeed = 0 ∧ ∀ k : Slot, match reply k with
    | none => (t.mod k).service = .absent
    | some p => (t.mod k).service = (if p.out = .on ∨ p.out = .limit then .stopping else .standby) ∧
        (p.out = .fault → p.code ≠ 1 → (t.mod k).fault = some p.code ∧ t.marked 13 k = true) ∧
        (p.out ≠ .fault ∨ p.code = 1 → (t.mod k).fault = none)

/-! ### The tables of chapter 1 as claims restate them -/

/-- The hold time of a channel in seconds (the table of R9). -/
def holdSeconds (ch : Fin 12) : Nat :=
  if ch.val ≤ 3 then 10 else if ch.val ≤ 6 then 900 else if ch.val ≤ 10 then 0 else 3600

/-- Some sample of a period stands at an end stop. -/
def StoppedAt (p : AnalogPeriod) (e : EndStop) : Prop := p.s0.stop = e ∨ p.s1.stop = e ∨ p.s2.stop = e ∨ p.s3.stop = e

/-- The mean of the four samples of a period, rounded toward zero (R3). -/
def meanOf (p : AnalogPeriod) : Int := Int.tdiv (p.s0.value + p.s1.value + p.s2.value + p.s3.value) 4

/-- The second column of R4's table. -/
def TableImplausible (ch : Fin 12) (p : AnalogPeriod) : Prop :=
  if ch = 7 ∨ ch = 9 then StoppedAt p .upper
  else if ch = 8 ∨ ch = 10 then 1000 < meanOf p
  else StoppedAt p .lower ∨ StoppedAt p .upper ∨
    ((ch = 1 ∨ ch = 2) ∧ (meanOf p < -8100 ∨ 8100 < meanOf p)) ∨
    (ch = 3 ∧ (meanOf p < -100 ∨ 8100 < meanOf p)) ∨
    ((ch = 4 ∨ ch = 5 ∨ ch = 6) ∧ (meanOf p < -450 ∨ 900 < meanOf p))

/-- The range a channel reports (the third column of R4's table); none where nothing is clamped. -/
def reportedRange (ch : Fin 12) : Option (Int × Int) :=
  match ch.val with
  | 1 | 2 => some (-8000, 8000)
  | 3 => some (0, 8000)
  | 4 | 5 | 6 => some (-400, 850)
  | 11 => some (0, 1000)
  | _ => none

/-- The clamped value of a plausible period value (the third column of R4's table). -/
def reportedOf (ch : Fin 12) (v : Int) : Int :=
  match reportedRange ch with
  | none => v
  | some (lo, hi) => if v < lo then lo else if hi < v then hi else v

/-! ### The table of R144 as claims restate it -/

/-- The state and count a detector moves to (the table of R144), from its state and count, the presence of its condition, its qualify and hold
times and whether it is a latching one. A detector that stays in a state whose cell names no count keeps its count. -/
def detTable (qualify hold : Nat) (latching present : Bool) (state : DetState) (count : Nat) : DetState × Nat :=
  if present then
    match state with
    | .clear => if qualify ≤ 1 then (.active, 1) else (.qualifying, 1)
    | .qualifying => if qualify ≤ count + 1 then (.active, count + 1) else (.qualifying, count + 1)
    | .active => (.active, count)
    | .holding => (.active, 0)
    | .latched => (.latched, count)
    | .proved => (.proved, count)
  else
    match state with
    | .clear => (.clear, count)
    | .qualifying => (.clear, 0)
    | .active => if latching then (.latched, count) else if hold = 0 then (.clear, 0) else (.holding, 0)
    | .holding => if hold ≤ count + 1 then (.clear, count + 1) else (.holding, count + 1)
    | .latched => (.latched, count)
    | .proved => (.proved, count)

/-- The choices of a detector's settings, in the codes of R174 (R142). -/
def choicesOf : DetField → List Nat
  | .cls => [0, 1, 2, 3]
  | .sev => [0, 1]
  | .qualify => [1, 5, 30, 120]
  | .hold => [0, 10, 60, 300]
  | .polarity => [0, 1]

/-- A setting of a PROTECT detector, which is answered CLAMPED and kept (R142). -/
def fixedEntry : SettingId → Bool
  | .det d _ => d = 3 ∨ d = 6 ∨ d = 19
  | _ => false

/-- What a write of detector `d`'s class does to the plant by itself (R145), from state `s` to state `t`, whose table holds the new class: the state
brought into line, and the action handed on or ended where that changes. A changed class that leaves the action of a module detector in force rests
or retires its marked slots. -/
def ClassTaken (d : Fin 32) (s t : State) : Prop :=
  let new := (t.detCfg d).cls
  let e := s.det d
  (t.det d).state = (if e.state = .latched ∧ new ≠ .latch then (if e.seen then .active else .holding)
    else if e.state = .holding ∧ new = .latch then .latched else e.state) ∧
  (t.det d).count = (if e.state = .latched ∧ new ≠ .latch ∧ e.seen = false then 0 else e.count) ∧
  (∀ j, j ≠ d → t.det j = s.det j) ∧
  (s.actionOf d ≠ t.actionOf d →
    (d = 20 → t.sc.inhibit = t.actionOf 20) ∧
    (d = 4 ∨ d = 5 → t.cc.restriction = s.cc.restriction.set d (t.actionOf d) ∧
      (s.cc.restriction = ⟨false, false, false⟩ → t.actionOf d = true → t.cc.mode = .restricted) ∧
      (s.cc.restriction ≠ ⟨false, false, false⟩ → t.cc.restriction = ⟨false, false, false⟩ → t.cc.mode = .float))) ∧
  ((d = 13 ∨ d = 14) → new ≠ (s.detCfg d).cls → t.actionOf d = true → ∀ k : Slot, s.marked d k = true →
    (s.mod k).service = .standby ∨ (s.mod k).service = .starting ∨ (s.mod k).service = .running ∨ (s.mod k).service = .stopping ∨
      (s.mod k).service = .resting →
    if new = .recover then (t.mod k).service = .resting
    else (t.mod k).service = .retired ∧ (t.mod k).retireCause = some (if d = 13 then .moduleFault else .moduleMismatch))

/-! ### Rows and notices -/

/-- The periodic step a row names an event of (notes/assumptions/1.md). -/
def periodicOf : Instr → Option Instr
  | .channelLapse _ r => some (.measurementPeriod r)
  | .currentSubstituted _ => some .accountUpdate
  | .anchor _ => some .accountUpdate
  | .driftStale _ => some .accountUpdate
  | .checkpointCountExpiry => some .accountUpdate
  | .taperExit => some .accountUpdate
  | .boostTimerExpiry => some .minuteEvent
  | .shedDelayExpiry _ => some .accountUpdate
  | .followTimeExpiry _ => some .accountUpdate
  | .recDelayExpiry _ => some .accountUpdate
  | .reconcile => some .minuteEvent
  | .servedMinutesComplete _ => some .minuteEvent
  | .rotationEvent => some .minuteEvent
  | .outageTimerExpiry r => some (.measurementPeriod r)
  | .walkInTimerExpiry r => some (.measurementPeriod r)
  | .removalHoldExpiry r => some (.measurementPeriod r)
  | .startWindowExpiry _ r => some (.measurementPeriod r)
  | .dropoutWatchExpiry _ r => some (.measurementPeriod r)
  | .stopCheck _ r => some (.measurementPeriod r)
  | .restExpiry _ r => some (.measurementPeriod r)
  | .mainsFail r => some (.measurementPeriod r)
  | .mainsReturn r => some (.measurementPeriod r)
  | .startUpPeriodEnd r => some (.measurementPeriod r)
  | .prestartExpiry r => some (.measurementPeriod r)
  | .crankExpiry r => some (.measurementPeriod r)
  | .crankRestExpiry r => some (.measurementPeriod r)
  | .warmupExpiry r => some (.measurementPeriod r)
  | .transferToGeneratorBegin r => some (.measurementPeriod r)
  | .qualifyWaitExpiry r => some (.measurementPeriod r)
  | .minimumRunElapsed r => some (.measurementPeriod r)
  | .cooldownExpiry r => some (.measurementPeriod r)
  | .failToStop r => some (.measurementPeriod r)
  | .stopPulseEnd r => some (.measurementPeriod r)
  | .detectorQualified _ r => some (.measurementPeriod r)
  | .detectorHoldExpiry _ r => some (.measurementPeriod r)
  | .proofProved _ r => some (.measurementPeriod r)
  | .powerOn | .coldRestart | .measurementPeriod _ | .accountUpdate | .checkpointWriteComplete | .minuteEvent | .demandEvaluation
  | .pollAttemptStart | .replyFrameReceived _ | .replyWindowClose | .breakPhaseEnd _ | .settingsSaveComplete | .readAccount _ _
  | .readModule _ _ | .readSupply _ _ | .readGenerator _ _ | .readRequests _ _ | .readSchedule _ _ | .readFuel _ _ | .readDetector _ _
  | .readMeasurement _ _ | .readSetting _ _ | .readClock _ _ | .readPending _ _ | .readSnapshot _ _ | .readShed _ _ | .setSetting _ _
  | .saveSettings _ _ | .setClock _ _ | .setChargeMode _ _ | .requestRun _ _ | .cancelRun _ _ | .releaseGenerator _ _ | .holdModule _ _
  | .returnModule _ _ | .releaseModule _ _ | .rotateNow _ _ | .releaseDetector _ _ | .proveDetector _ _ | .shedStage _ _
  | .restoreStage _ _ | .addScheduleEntry _ _ | .removeScheduleEntry _ _ | .resetFuel _ _ | .takeSnapshot _ _ | .setMask _ _
  | .takeSiteHold _ _ | .giveSiteHold _ _ | .warmRestart _ _ | .uncataloguedRequestFrame _ _ => none

/-- The request of the catalogue a row stands for, with its port and frame. -/
def requestOf : Instr → Option (Request × Port × Frame)
  | .readAccount q f => some (reqReadAccount, q, f)
  | .readModule q f => some (reqReadModule, q, f)
  | .readSupply q f => some (reqReadSupply, q, f)
  | .readGenerator q f => some (reqReadGenerator, q, f)
  | .readRequests q f => some (reqReadRequests, q, f)
  | .readSchedule q f => some (reqReadSchedule, q, f)
  | .readFuel q f => some (reqReadFuel, q, f)
  | .readDetector q f => some (reqReadDetector, q, f)
  | .readMeasurement q f => some (reqReadMeasurement, q, f)
  | .readSetting q f => some (reqReadSetting, q, f)
  | .readClock q f => some (reqReadClock, q, f)
  | .readPending q f => some (reqReadPending, q, f)
  | .readSnapshot q f => some (reqReadSnapshot, q, f)
  | .readShed q f => some (reqReadShed, q, f)
  | .setSetting q f => some (reqSetSetting, q, f)
  | .saveSettings q f => some (reqSaveSettings, q, f)
  | .setClock q f => some (reqSetClock, q, f)
  | .setChargeMode q f => some (reqSetChargeMode, q, f)
  | .requestRun q f => some (reqRequestRun, q, f)
  | .cancelRun q f => some (reqCancelRun, q, f)
  | .releaseGenerator q f => some (reqReleaseGenerator, q, f)
  | .holdModule q f => some (reqHoldModule, q, f)
  | .returnModule q f => some (reqReturnModule, q, f)
  | .releaseModule q f => some (reqReleaseModule, q, f)
  | .rotateNow q f => some (reqRotateNow, q, f)
  | .releaseDetector q f => some (reqReleaseDetector, q, f)
  | .proveDetector q f => some (reqProveDetector, q, f)
  | .shedStage q f => some (reqShedStage, q, f)
  | .restoreStage q f => some (reqRestoreStage, q, f)
  | .addScheduleEntry q f => some (reqAddScheduleEntry, q, f)
  | .removeScheduleEntry q f => some (reqRemoveScheduleEntry, q, f)
  | .resetFuel q f => some (reqResetFuel, q, f)
  | .takeSnapshot q f => some (reqTakeSnapshot, q, f)
  | .setMask q f => some (reqSetMask, q, f)
  | .takeSiteHold q f => some (reqTakeSiteHold, q, f)
  | .giveSiteHold q f => some (reqGiveSiteHold, q, f)
  | .warmRestart q f => some (reqWarmRestart, q, f)
  | .powerOn | .coldRestart | .measurementPeriod _ | .channelLapse _ _ | .accountUpdate | .currentSubstituted _ | .anchor _
  | .driftStale _ | .checkpointCountExpiry | .checkpointWriteComplete | .taperExit | .boostTimerExpiry | .shedDelayExpiry _
  | .followTimeExpiry _ | .recDelayExpiry _ | .minuteEvent | .reconcile | .servedMinutesComplete _ | .rotationEvent
  | .outageTimerExpiry _ | .demandEvaluation | .walkInTimerExpiry _ | .removalHoldExpiry _ | .startWindowExpiry _ _
  | .dropoutWatchExpiry _ _ | .stopCheck _ _ | .restExpiry _ _ | .pollAttemptStart | .replyFrameReceived _ | .replyWindowClose
  | .mainsFail _ | .mainsReturn _ | .startUpPeriodEnd _ | .breakPhaseEnd _ | .prestartExpiry _ | .crankExpiry _ | .crankRestExpiry _
  | .warmupExpiry _ | .transferToGeneratorBegin _ | .qualifyWaitExpiry _ | .minimumRunElapsed _ | .cooldownExpiry _ | .failToStop _
  | .stopPulseEnd _ | .detectorQualified _ _ | .detectorHoldExpiry _ _ | .proofProved _ _ | .settingsSaveComplete
  | .uncataloguedRequestFrame _ _ => none

/-- A notice kind is pending at a port. -/
def PendingAt (q : Port) (n : Notice) (t : State) : Prop := (t.port q).pendingSet &&& n.bit ≠ 0#13

/-- A notice kind is pending at all ports. -/
def PendingAll (n : Notice) (t : State) : Prop := ∀ q, PendingAt q n t

/-! ### Requests at a port -/

/-- Start-up is over, and a frame with a request's argument bytes passes its check and is not the port's last frame: the frame is a new request
(R158, R159, R171). -/
structure NewRequest (c : Request) (q : Port) (f : Frame) (s : State) : Prop where
  running : s.startStep = .running
  args : f.args.length = c.argCount
  sum : (frameBytes c.code f).sum = 0#8
  fresh : (s.port q).lastFrame ≠ some (frameBytes c.code f)

/-- A new request that test 3 of R160 lets pass. -/
structure FreeRequest (c : Request) (q : Port) (f : Frame) (s : State) : Prop extends NewRequest c q f s where
  free : s.pc.siteHold = false ∨ q = .craft

/-- The state `t` with a response given to a port and kept with its frame, the frame being that of a request (R159). -/
def answered (c : Request) (q : Port) (f : Frame) (st : Status) (data : List Byte) (t : State) : State :=
  giveAndKeep q (frameBytes c.code f) ⟨f.tag, st, data⟩ t

/-- A response was given to a port and kept with the request's frame (R159). -/
def Responded (c : Request) (q : Port) (f : Frame) (st : Status) (data : List Byte) (t : State) : Prop :=
  (t.port q).sent = some ⟨f.tag, st, data⟩ ∧ (t.port q).lastResponse = some ⟨f.tag, st, data⟩ ∧
    (t.port q).lastFrame = some (frameBytes c.code f)

/-- DONE, or CLAMPED with the values taken (R160). -/
def RespondedTaken (c : Request) (q : Port) (f : Frame) (clamped : Bool) (data : List Byte) (t : State) : Prop :=
  if clamped then Responded c q f .clamped data t else Responded c q f .done [] t

end Sys2Proof.Machine
end

