-- ==== Sys2Proof/Certificates/Slice0/Obligations.lean ====
section
/-! DEFINITION. The statements for the provers: what the rules of spec/ say the commands do. -/

open Sys2Proof Sys2Proof.Machine

/-! ### The step -/

/-- One step carries out the command at the front of the queue on the state whose queue holds the rest; an empty queue leaves the block idle
(98_reader.md; the idle step is the model's choice, notes/assumptions/3.md). -/
def Obligations.StepRunsTheFrontCommand : Prop :=
  (∀ (s : State) (c : Instr) (rest : List Instr), s.pending = c :: rest → step s = exec c (s.withPending rest)) ∧
  ∀ s : State, s.pending = [] → step s = .next s

/-- A row that names what comes about at a periodic step is either that whole step or changes nothing (the model's choice,
notes/assumptions/1.md). -/
def Obligations.NamedEventIsItsPeriodicStep : Prop :=
  ∀ (s : State) (c p : Instr), periodicOf c = some p → exec c s = .next s ∨ exec c s = exec p s

/-! ### Invariants of every step -/

/-- The mains contactor and the generator contactor are never commanded closed together (R106). -/
def Obligations.ContactorsNeverClosedTogether : Prop :=
  ∀ s t : State, Interlocked s → step s = .next t → Interlocked t

/-- Each existing account's fields stay in the ranges of R16 (R26); C_full stays in its range of 450,000 to 108,000,000 while the settings are right
(R18). -/
def Obligations.AccountsStayInRange : Prop :=
  ∀ s t : State, AccountsInRange s → step s = .next t →
    AccountsInRange t ∧ (SettingsRight s → CapacitiesInRange s → CapacitiesInRange t)

/-- Every setting stays in its range, and every dependent pair in its order (R56, R142, R153, R167). -/
def Obligations.SettingsStayInRange : Prop :=
  ∀ s t : State, SettingsRight s → step s = .next t → SettingsRight t

/-- No module is commanded RUN on NONE, and no more than GEN_CAP modules are in STARTING or RUNNING on GENERATOR (R85, R87). -/
def Obligations.RunNeedsASupply : Prop :=
  ∀ s t : State, RunFollowsSupply s → step s = .next t → RunFollowsSupply t

/-- The walk-in queue holds STANDBY modules, none twice (R80, R84, R85); a swap in flight stands on MAINS, its H RUNNING and its L STARTING (R95,
R96). -/
def Obligations.QueueHoldsStandbyModules : Prop :=
  (∀ s t : State, QueueOfStandby s → step s = .next t → QueueOfStandby t) ∧
  ∀ s t : State, SwapRight s → step s = .next t → SwapRight t

/-- While the settings are right, every placed setpoint stays in the bus range (R81) and the fuel account between 0 and the tank (R135). -/
def Obligations.SetpointsAndFuelStayInRange : Prop :=
  ∀ s t : State, SettingsRight s → SetpointsInRange s → FuelInRange s → step s = .next t → SetpointsInRange t ∧ FuelInRange t

/-- While the settings are right, the sequence's glow and crank outputs follow its state (R108) and its attempts never exceed the limit it took (R111);
so do its stop output and the GC command, with what a power-on (R121), the MAKE phase of a transfer (R106) and a warm restart (R122,
notes/assumptions/15.md) leave besides R108's table. -/
def Obligations.SequenceStaysRight : Prop :=
  ∀ s t : State, SettingsRight s → SequenceRight s → step s = .next t → SequenceRight t ∧ (StopAndGcRight s → StopAndGcRight t)

/-- The schedule keeps its order, its size and its distinct entries (R132), and no two run requests share reason and origin (R123). -/
def Obligations.ScheduleAndRequestsStayRight : Prop :=
  ∀ s t : State, SchedulesRight s → RequestsDistinct s → step s = .next t → SchedulesRight t ∧ RequestsDistinct t

/-- The relays stand as R149 states after every step. -/
def Obligations.RelaysFollowDetectors : Prop :=
  ∀ s t : State, RelaysRight s → step s = .next t → RelaysRight t

/-- Whenever a shed stage is open, every stage below it is open (R153). -/
def Obligations.ShedStagesStayNested : Prop :=
  ∀ s t : State, ShedNested s → step s = .next t → ShedNested t

/-- Every port's attention line follows its pending set and its mask (R158). -/
def Obligations.AttentionFollowsPendingSet : Prop :=
  ∀ s t : State, AttentionRight s → step s = .next t → AttentionRight t

/-- The machine after reset meets every invariant above (notes/assumptions/4.md names its reset values). -/
def Obligations.ResetMeetsEveryInvariant : Prop :=
  Interlocked State.reset ∧ AccountsInRange State.reset ∧ SettingsRight State.reset ∧ RunFollowsSupply State.reset ∧
  QueueOfStandby State.reset ∧ SetpointsInRange State.reset ∧ FuelInRange State.reset ∧ SequenceRight State.reset ∧
  SchedulesRight State.reset ∧ RequestsDistinct State.reset ∧ RelaysRight State.reset ∧ ShedNested State.reset ∧
  AttentionRight State.reset ∧ CapacitiesInRange State.reset ∧ StopAndGcRight State.reset ∧ SwapRight State.reset

/-- The sequence leaves LOCKED-OUT by a power-on, a cold restart or an accepted RELEASE GENERATOR alone (R118). -/
def Obligations.LockedOutIsLeftByReleaseAlone : Prop :=
  ∀ (c : Instr) (s t : State), c.wellFormed = true → SequenceRight s → s.sc.seq.state = .lockedOut → exec c s = .next t →
    t.sc.seq.state = .lockedOut ∨ c = .powerOn ∨ c = .coldRestart ∨
      ∃ q f, c = .releaseGenerator q f ∧ Responded reqReleaseGenerator q f .done [] t

/-! ### Frames -/

/-- What the periodic steps and the rows that name their events leave unchanged. Measurement periods leave the accounts, the shelf bus, the shed
stages, the settings, the clock, the schedule and the fuel; account updates leave the records of the measurements, the shelf bus, the supply, the
detectors and the clock; minute events leave the measurements, the accounts, the shelf bus, the supply, the detectors, the shed stages and the
settings (R2, R10, R21, R124, R170). -/
def Obligations.PeriodicStepFrames : Prop :=
  ∀ (c : Instr) (s t : State), exec c s = .next t →
    match (periodicOf c).getD c with
    | .measurementPeriod _ =>
      t.au = s.au ∧ t.sbc = s.sbc ∧ t.shc = s.shc ∧ t.ss = s.ss ∧ t.clk = s.clk ∧ t.startStep = s.startStep ∧
      t.freeDraws = s.freeDraws ∧ t.pending = s.pending ∧ t.rqu.schedule = s.rqu.schedule ∧ t.rqu.fuel = s.rqu.fuel ∧
      t.rqu.residue = s.rqu.residue ∧ t.rqu.reserve = s.rqu.reserve ∧ t.rqu.exhausted = s.rqu.exhausted ∧
      t.rqu.burnRate = s.rqu.burnRate ∧ t.rqu.reconcileCount = s.rqu.reconcileCount ∧ t.rqu.reconcileDue = s.rqu.reconcileDue ∧
      t.rqu.lastReading = s.rqu.lastReading
    | .accountUpdate =>
      t.mu = s.mu ∧ t.sbc = s.sbc ∧ t.sc = s.sc ∧ t.du = s.du ∧ t.clk = s.clk ∧ t.startStep = s.startStep ∧ t.pending = s.pending ∧
      t.ss.table = s.ss.table ∧ t.ss.loadSource = s.ss.loadSource ∧ t.ss.image = s.ss.image ∧ t.ss.save = s.ss.save ∧
      t.rqu.schedule = s.rqu.schedule ∧ t.rqu.fuel = s.rqu.fuel ∧ t.rqu.residue = s.rqu.residue ∧ t.rqu.outage = s.rqu.outage ∧
      t.rqu.burnRate = s.rqu.burnRate ∧ t.rqu.reconcileCount = s.rqu.reconcileCount ∧ t.rqu.reconcileDue = s.rqu.reconcileDue ∧
      t.rqu.lastReading = s.rqu.lastReading
    | .minuteEvent =>
      t.mu = s.mu ∧ t.au = s.au ∧ t.sbc = s.sbc ∧ t.sc = s.sc ∧ t.du = s.du ∧ t.shc = s.shc ∧ t.ss = s.ss ∧
      t.startStep = s.startStep ∧ t.freeDraws = s.freeDraws ∧ t.pending = s.pending ∧ t.rqu.outage = s.rqu.outage
    | _ => True

/-- What the shelf bus rows, a BREAK phase's end, a demand evaluation and the ends of the two writes leave unchanged (R62 to R72, R81, R106, R37,
R168). -/
def Obligations.OtherEventFrames : Prop :=
  ∀ (c : Instr) (s t : State), exec c s = .next t →
    match c with
    | .pollAttemptStart => t = { s with sbc := t.sbc }
    | .replyFrameReceived _ | .replyWindowClose =>
      t = { s with sbc := t.sbc, rc := t.rc, du := t.du, pc := t.pc, startStep := t.startStep } ∧
      t.du.proof = s.du.proof ∧ t.du.majorAlarm = s.du.majorAlarm ∧ t.du.minorAlarm = s.du.minorAlarm ∧
      (s.startStep ≠ .discovery → t.startStep = s.startStep) ∧ (∀ d : Fin 32, (t.det d).state = (s.det d).state)
    | .demandEvaluation => t = { s with rc := t.rc, pc := t.pc }
    | .breakPhaseEnd _ =>
      t = { s with cc := t.cc, rc := t.rc, sc := t.sc, rqu := t.rqu, pc := t.pc } ∧ t.sc.seq = s.sc.seq ∧ t.sc.mains = s.sc.mains ∧
      t.sc.inhibit = s.sc.inhibit ∧ t.sc.lockOut = s.sc.lockOut
    | .checkpointWriteComplete => t = { s with ss := t.ss, freeDraws := t.freeDraws } ∧ t.ss.image = s.ss.image ∧ t.ss.table = s.ss.table
    | .settingsSaveComplete => t = { s with ss := t.ss, pc := t.pc } ∧ t.ss.ckpt = s.ss.ckpt ∧ t.ss.table = s.ss.table
    | _ => True

/-- What a request frame leaves unchanged, by the request's code (R161, R173): every unit but those the request acts on. RELEASE GENERATOR (code 38)
enters OFF, whose GC command is OPEN (R108): with GC OPEN already, as LOCKED-OUT has it, the charge and service records are left too. -/
def Obligations.RequestFrames : Prop :=
  ∀ (s : State) (c : Instr) (rq : Request) (q : Port) (f : Frame), requestOf c = some (rq, q, f) → ∀ t, exec c s = .next t →
    t.mu = s.mu ∧ t.au = s.au ∧ t.sbc = s.sbc ∧ t.startStep = s.startStep ∧ t.pending = s.pending ∧ t.ss.ckpt = s.ss.ckpt ∧
    t.ss.ckptWrite = s.ss.ckptWrite ∧ t.ss.ckptWaiting = s.ss.ckptWaiting ∧ t.ss.loadSource = s.ss.loadSource ∧
    (rq.code ∉ [32, 33] → t.ss = s.ss) ∧ (rq.code ≠ 33 → t.freeDraws = s.freeDraws) ∧ (rq.code ≠ 34 → t.clk = s.clk) ∧
    (rq.code ∉ [45, 46, 54] → t.shc = s.shc) ∧ (rq.code ∉ [32, 35, 43, 54] → (rq.code = 38 → s.sc.gc.closed = false) → t.cc = s.cc) ∧
    (rq.code ∉ [32, 38, 43, 54] → t.sc = s.sc) ∧
    (rq.code ∉ [32, 34, 36, 37, 38, 43, 47, 48, 49, 54] → t.rqu = s.rqu) ∧
    (rq.code ∉ [32, 35, 39, 40, 41, 42, 43, 54] → (rq.code = 38 → s.sc.gc.closed = false) → t.rc = s.rc) ∧
    (rq.code ∉ [23, 32, 41, 43, 44, 54] → t.du = s.du) ∧
    (rq.code ∉ [52, 53, 54] → t.pc.siteHold = s.pc.siteHold)

/-! ### Plant measurements (01_plant_measurements.md) -/

/-- What a period completion makes of an analog record (R3, R4, R6, R7 and R8). That an end stop makes a period implausible row by row of R4's table is
the model's reading (notes/assumptions/13.md). -/
def Obligations.AnalogRecordMoves : Prop :=
  ∀ (r : Readings) (ch : Fin 12) (s : State), ∃ t, exec (.measurementPeriod r) s = .next t ∧
    (¬TableImplausible ch r.analog[ch] →
      (t.analog ch).cond = .valid ∧ (t.analog ch).heldAge = 0 ∧
      match (if ch = 4 ∨ ch = 5 ∨ ch = 6 then some 16 else if ch = 11 then some 60 else none : Option Nat) with
      | none => (t.analog ch).value = some (reportedOf ch (meanOf r.analog[ch]))
      | some size =>
        (t.analog ch).window = (if (s.analog ch).cond = .valid then
          ((s.analog ch).window ++ [reportedOf ch (meanOf r.analog[ch])]).drop ((s.analog ch).window.length + 1 - size)
          else [reportedOf ch (meanOf r.analog[ch])]) ∧
        (t.analog ch).value = some (Int.tdiv (t.analog ch).window.sum (t.analog ch).window.length)) ∧
    (TableImplausible ch r.analog[ch] → (s.analog ch).cond = .empty → t.analog ch = s.analog ch) ∧
    (TableImplausible ch r.analog[ch] → (s.analog ch).cond ≠ .empty →
      (t.analog ch).value = (s.analog ch).value ∧ (t.analog ch).window = (s.analog ch).window ∧
      (t.analog ch).heldAge = min 65535 ((s.analog ch).heldAge + 1) ∧
      (t.analog ch).cond = if (s.analog ch).cond = .lapsed ∨ holdSeconds ch ≤ (t.analog ch).heldAge then .lapsed else .held)

/-- R9: a VALID or HELD record becomes LAPSED at the completion that brings its held age to the hold time, and keeps its value. -/
def Obligations.ChannelLapsesAtItsHoldTime : Prop :=
  ∀ (ch : Fin 12) (r : Readings) (s : State), ((s.analog ch).cond = .valid ∨ (s.analog ch).cond = .held) →
    TableImplausible ch r.analog[ch] → holdSeconds ch ≤ min 65535 ((s.analog ch).heldAge + 1) →
    ∃ t, exec (.channelLapse ch r) s = .next t ∧ (t.analog ch).cond = .lapsed ∧ (t.analog ch).value = (s.analog ch).value ∧
      (t.analog ch).heldAge = min 65535 ((s.analog ch).heldAge + 1)

/-- R11: the debounce of an input at a period completion; the detector evaluation that follows it takes the changed mark (R12, R144). -/
def Obligations.InputsAreDebounced : Prop :=
  ∀ (r : Readings) (i : Fin 13) (s : State), ∃ t, exec (.measurementPeriod r) s = .next t ∧
    (t.input i).recent = ((s.input i).recent ++ [r.inputs[i]]).drop ((s.input i).recent.length + 1 - 3) ∧
    (t.input i).level = (if (t.input i).recent = [r.inputs[i], r.inputs[i], r.inputs[i]] then some r.inputs[i] else (s.input i).level) ∧
    ((completePeriod r s).input i).changed = ((s.input i).changed || decide ((t.input i).level ≠ (s.input i).level)) ∧
    (t.input i).changed = false ∧
    (i.val = 8 → (s.input i).level ≠ some false → (t.input i).level = some false → t.pc.siteHold = false)

/-! ### The battery account (02_the_battery_account.md) -/

/-- R18 to R27 for a string whose current record is VALID at an account update and which gathers no taper: the band, the effective capacity, the
content, the residue, the SoC and the runtime after it, string B's account being created before it where STRINGS asks for it (R17). R17 and R33:
string B's account after an update exists as STRINGS has it, and the imbalance indication is formed from the figures of that update. -/
def Obligations.AccountUpdateCountsTheCharge : Prop :=
  (∀ s : State, ∃ t, exec .accountUpdate s = .next t ∧ (t.au.acctB.isSome = true ↔ s.cfg .strings ≠ 1) ∧
    t.au.imbalance = (match t.au.acctB with
      | none => .notEvaluated
      | some b =>
        if (s.analog 1).cond ≠ .valid ∨ (s.analog 2).cond ≠ .valid then .notEvaluated
        else if s.cfg .imbalPm < ((t.au.acctA.soc : Int) - b.soc).natAbs then .imbalanced
        else .balanced)) ∧
  ∀ (s : State) (g : StringId) (a : Account), handledAccount s g = some a →
    (s.analog (chCurrent g)).cond = .valid → ∀ i, (s.analog (chCurrent g)).value = some i →
    (s.cc.mode ≠ .float ∨ i < 0 ∨ (s.taperThreshold g : Int) < i) →
    ∃ t, exec .accountUpdate s = .next t ∧ ∃ b, t.account g = some b ∧
      (match (s.analog (chTemp g)).usable with
       | none => b.band = a.band ∧ b.assumed = a.assumed
       | some x => b.band = (if a.assumed then tableBand x else deadZoneBand a.band x) ∧ b.assumed = false) ∧
      b.cfull = s.cfg (capSetting g) * 36000 * s.cfg (capFactor b.band) / 256 ∧
      b.lost = 0 ∧ b.taperMin = 0 ∧ b.taperSec = 0 ∧
      (let q := if b.cfull = a.cfull then a.q else a.q * b.cfull / a.cfull
       let eta := if a.soc < 800 then s.cfg .eta1 else if a.soc < 950 then s.cfg .eta2 else s.cfg .eta3
       (0 < i → b.q = min b.cfull (q + (i.toNat * eta + a.residue) / 256) ∧ b.residue = (i.toNat * eta + a.residue) % 256) ∧
       (i ≤ 0 → b.q = min b.cfull (q - i.natAbs) ∧ b.residue = a.residue) ∧
       ((q : Int) + i < 0 → b.q = 0 ∧ b.conf = .unsure)) ∧
      b.soc = b.q * 1000 / b.cfull ∧
      b.runtime = (if i < 0 then min 65534 (b.q / (i.natAbs * 60)) else 65535)

/-- R22: a string whose current is LAPSED, EMPTY or HELD beyond ten updates is charged with 0 and becomes UNSURE, an account created at the update
too (R17). -/
def Obligations.LostCurrentIsSubstituted : Prop :=
  ∀ (s : State) (g : StringId) (a : Account), handledAccount s g = some a →
    ((s.analog (chCurrent g)).cond = .lapsed ∨ (s.analog (chCurrent g)).cond = .empty ∨
      ((s.analog (chCurrent g)).cond = .held ∧ 10 ≤ a.lost)) →
    ∃ t, exec (.currentSubstituted g) s = .next t ∧ ∃ b, t.account g = some b ∧ b.conf = .unsure ∧
      b.lost = min 65535 (a.lost + 1) ∧ b.residue = a.residue ∧ b.runtime = 65535 ∧ b.taperMin = 0 ∧ b.taperSec = 0 ∧
      b.q = min b.cfull (if b.cfull = a.cfull then a.q else a.q * b.cfull / a.cfull)

/-- R29 and R31: an account whose taper has lasted ANCHOR_MIN is set full and a checkpoint is started; an ANCHORED account that reaches DRIFT_LIMIT
becomes STALE. -/
def Obligations.AnchorAndDrift : Prop :=
  (∀ (s : State) (g : StringId) (a : Account), s.account g = some a → (g = .strB → s.cfg .strings ≠ 1) →
    s.cc.mode = .float → (s.analog (chCurrent g)).cond = .valid → ∀ i, (s.analog (chCurrent g)).value = some i →
    0 ≤ i → i ≤ s.taperThreshold g → ∀ v, (s.analog chBus).usable = some v → (s.cc.setpoint : Int) - 100 ≤ v →
    s.cfg .anchorMin ≤ (if 59 ≤ a.taperSec then min 65535 (a.taperMin + 1) else a.taperMin) → 0 < s.cfg .driftLimit →
    ∃ t, exec (.anchor g) s = .next t ∧ t.ss.ckptWrite.isSome = true ∧ ∃ b, t.account g = some b ∧
      b.q = b.cfull ∧ b.residue = 0 ∧ b.soc = 1000 ∧ b.conf = .anchored ∧ b.hours = 0 ∧ b.anchorSec = 1 ∧ b.taperMin = 0 ∧
      b.taperSec = 0 ∧ b.restored = none ∧ b.runtime = 65535) ∧
  ∀ (s : State) (g : StringId) (a : Account), s.account g = some a → (g = .strB → s.cfg .strings ≠ 1) →
    a.conf = .anchored → s.cc.mode ≠ .float → (s.analog (chCurrent g)).cond = .valid →
    ∀ i, (s.analog (chCurrent g)).value = some i → 0 ≤ i →
    s.cfg .driftLimit ≤ (if 3599 ≤ a.anchorSec then min 65535 (a.hours + 1) else a.hours) →
    ∃ t, exec (.driftStale g) s = .next t ∧ ∃ b, t.account g = some b ∧ b.conf = .stale

/-- R36, R37 and R168: the checkpoint count's expiry starts a checkpoint of the content as the update leaves it, in the copy that is not the later
valid one; a completed write sets its copy's mark and lets a waiting checkpoint begin, in the other copy when the completed one is then the later valid
one; a completed save sets its copy's mark and raises SETTINGS-SAVED to its port. The model's choices: the copy holds the content from the start of
the write (notes/assumptions/28.md), and a completion with nothing in progress changes nothing (notes/assumptions/48.md). -/
def Obligations.CheckpointsAndSavesComplete : Prop :=
  (∀ s : State, 3600 ≤ s.au.count + 1 → ∃ t, exec .checkpointCountExpiry s = .next t ∧ t.au.count = 0 ∧
    (s.ss.ckptWrite = none → ∃ i, t.ss.ckptWrite = some i ∧ (t.ss.ckpt.copy i).content = some (ckptContent t) ∧
      (t.ss.ckpt.copy i).mark = false ∧ t.ss.ckpt.copy i.other = s.ss.ckpt.copy i.other ∧
      s.ss.ckpt.later (freeCopy s.freeDraws) ≠ some i) ∧
    (s.ss.ckptWrite.isSome = true → t.ss.ckptWrite = s.ss.ckptWrite ∧ t.ss.ckpt = s.ss.ckpt ∧
      t.ss.ckptWaiting = some (ckptContent t))) ∧
  (∀ (s : State) (i : CopyId), s.ss.ckptWrite = some i → ∃ t, exec .checkpointWriteComplete s = .next t ∧ t.ss.ckptWaiting = none ∧
    (s.ss.ckptWaiting = none → t.ss.ckptWrite = none ∧ t.ss.ckpt.copy i = { s.ss.ckpt.copy i with mark := true } ∧
      t.ss.ckpt.copy i.other = s.ss.ckpt.copy i.other) ∧
    (∀ x, s.ss.ckptWaiting = some x → ∃ j, t.ss.ckptWrite = some j ∧ (t.ss.ckpt.copy j).content = some x ∧
      (t.ss.ckpt.copy j).mark = false ∧
      (j ≠ i → t.ss.ckpt.copy i = { s.ss.ckpt.copy i with mark := true }) ∧
      (LaterValid (s.ss.ckpt.setCopy i { s.ss.ckpt.copy i with mark := true }) i →
        j = i.other ∧ (t.ss.ckpt.copy j).seq = ((s.ss.ckpt.copy i).seq + 1) % 4294967296))) ∧
  (∀ (s : State) (v : Save), s.ss.save = some v → ∃ t, exec .settingsSaveComplete s = .next t ∧ t.ss.save = none ∧
    t.ss.image.copy v.copy = { s.ss.image.copy v.copy with mark := true } ∧
    t.ss.image.copy v.copy.other = s.ss.image.copy v.copy.other ∧ PendingAt v.port .settingsSaved t) ∧
  ∀ s : State, (s.ss.ckptWrite = none → exec .checkpointWriteComplete s = .next s) ∧
    (s.ss.save = none → exec .settingsSaveComplete s = .next s)

/-! ### Charge modes and the bus setpoint (03_charge_modes_and_the_bus_setpoint.md) -/

/-- R53, R54, R55 and R57: the compensation temperature, the bus setpoint and the recharge limits as the charge evaluation of an account update
forms them. -/
def Obligations.ChargeResultsAreFormed : Prop :=
  ∀ s : State, ∃ t, exec .accountUpdate s = .next t ∧
    (t.cc.tc : Int) = (match (t.analog 4).usable, if t.au.acctB.isSome then (t.analog 5).usable else none with
      | none, none => 250
      | some x, none => max 0 (min 400 x)
      | none, some y => max 0 (min 400 y)
      | some x, some y => max 0 (min 400 (max x y))) ∧
    (let n : Int := s.cfg .slope * ((t.cc.tc : Int) - 250)
     let delta : Int := n.sign * ((n.natAbs + 5000) / 10000 : Nat)
     let volts (cell : Setting) (off : Int) : Int :=
       max (s.cfg .vbusMin) (min (s.cfg .vbusMax) (s.cfg .cells * (s.cfg cell - delta) - off))
     (t.cc.mode = .float → (t.cc.setpoint : Int) = volts .vfCell 0) ∧
     (t.cc.mode = .restricted → (t.cc.setpoint : Int) = volts .vfCell 1200 ∧ (t.cc.setpoint : Int) ≤ volts .vfCell 0) ∧
     (t.cc.mode = .boost ∨ t.cc.mode = .refresh → (t.cc.setpoint : Int) = volts .vbCell 0)) ∧
    t.cc.limitA = s.cfg .capA * s.cfg .limitPm / 100 ∧
    t.cc.limitB = (if t.au.acctB.isSome then some (s.cfg .capB * s.cfg .limitPm / 100) else none) ∧
    t.cc.total = (if t.cc.mode = .restricted then (t.cc.limitA + t.cc.limitB.getD 0) / 2 else t.cc.limitA + t.cc.limitB.getD 0)

/-- R45 to R50: where a charge evaluation enters BOOST and REFRESH; a BOOST or REFRESH ends in FLOAT, with boost entry disarmed and refresh done set, by
900 seconds of taper or by its timer, which stands still on NONE; what a change of the source (the model's `refreshSource`) does to the charge record;
the restriction set, joined by the detectors 4, 5 and 6. A charge evaluation re-arms and clears as R44 states in the same event. -/
def Obligations.BoostEnds : Prop :=
  (∀ s : State, (s.cc.mode = .boost ∨ s.cc.mode = .refresh) → s.sc.source ≠ .none → 899 ≤ s.cc.taperExit →
    (∃ v, (s.analog 1).usable = some v ∧ v ≤ s.taperThreshold .strA) →
    (s.cfg .strings ≠ 1 → ∃ v, (s.analog 2).usable = some v ∧ v ≤ s.taperThreshold .strB) →
    ∃ t, exec .taperExit s = .next t ∧ t.cc.mode = .float ∧ t.cc.boostRemaining = none ∧ t.cc.taperExit = 0 ∧
      t.cc.armed = decide (s.cfg .boostEntryPm ≤ t.lowestSoc) ∧ t.cc.refreshDone = t.someStale ∧ PendingAll .chargeMode t) ∧
  (∀ s : State, (s.cc.mode = .boost ∨ s.cc.mode = .refresh) → ∀ n, s.cc.boostRemaining = some n →
    (s.clk.isSet = false ∨ s.rqu.schedule = []) →
    (s.sc.source ≠ .none → n ≤ 1 → ∃ t, exec .boostTimerExpiry s = .next t ∧ t.cc.mode = .float ∧ t.cc.boostRemaining = none ∧
      t.cc.armed = false ∧ t.cc.refreshDone = true ∧ PendingAll .chargeMode t) ∧
    (s.sc.source ≠ .none → 1 < n → ∃ t, exec .minuteEvent s = .next t ∧ t.cc = { s.cc with boostRemaining := some (n - 1) }) ∧
    (s.sc.source = .none → ∃ t, exec .minuteEvent s = .next t ∧ t.cc = s.cc)) ∧
  (∀ s : State, (s.cc.mode = .float ∨ s.cc.mode = .refresh ∧ s.cc.taperExit < 899) → ∃ t, exec .accountUpdate s = .next t ∧
    (let boosts := s.cc.armed = true ∧ s.sc.source ≠ .none ∧ t.lowestSoc < s.cfg .boostEntryPm
     let refreshes := s.cc.mode = .float ∧ t.someStale = true ∧ s.sc.source = .mains ∧ s.cc.refreshDone = false
     (boosts → t.cc.mode = .boost ∧ t.cc.boostRemaining = some (s.cfg .boostMax * 60) ∧ t.cc.taperExit = 0 ∧ PendingAll .chargeMode t) ∧
     (¬boosts → refreshes → t.cc.mode = .refresh ∧ t.cc.boostRemaining = some (s.cfg .boostMax * 60) ∧ PendingAll .chargeMode t) ∧
     (¬boosts → ¬refreshes → t.cc.mode = s.cc.mode) ∧
     t.cc.armed = (s.cc.armed || decide (s.cfg .boostEntryPm ≤ t.lowestSoc)) ∧
     t.cc.refreshDone = (s.cc.refreshDone && t.someStale))) ∧
  (∀ s u : State, u = refreshSource s → s.formedSource ≠ s.sc.source → u.sc.source = s.formedSource ∧ PendingAll .supplyChange u ∧
    match s.formedSource with
    | .none => u.cc.armed = true ∧ u.cc.refreshDone = s.cc.refreshDone ∧
        (s.cc.mode = .refresh → u.cc.mode = .float ∧ u.cc.boostRemaining = none ∧ PendingAll .chargeMode u) ∧
        (s.cc.mode ≠ .refresh → u.cc = { s.cc with armed := true })
    | .mains => u.cc = { s.cc with refreshDone := false }
    | .generator => u.cc.armed = s.cc.armed ∧ u.cc.refreshDone = s.cc.refreshDone ∧
        (s.cc.mode = .boost ∨ s.cc.mode = .restricted → u.cc = s.cc) ∧
        (s.cc.mode = .float ∨ s.cc.mode = .refresh → s.lowestSoc < s.cfg .recoverPm →
          u.cc.mode = .boost ∧ u.cc.boostRemaining = some (s.cfg .boostMax * 60) ∧ PendingAll .chargeMode u) ∧
        (s.cc.mode = .float ∨ s.cc.mode = .refresh → s.cfg .recoverPm ≤ s.lowestSoc → u.cc.mode = .float)) ∧
  (∀ (s : State) (r : Readings) (d : Fin 32), (d = 4 ∨ d = 5 ∨ d = 6) → s.underProof d = false →
    (takeInputs (periodSupply r s)).condition d = true →
    ((s.det d).state = .clear ∧ (s.detCfg d).qualify ≤ 1 ∨
      (s.det d).state = .qualifying ∧ (s.detCfg d).qualify ≤ (s.det d).count + 1) →
    s.cc.restriction = ⟨false, false, false⟩ → s.cc.mode ≠ .restricted →
    ∃ t, exec (.detectorQualified d r) s = .next t ∧
      ((s.detCfg d).cls = .recover ∨ (s.detCfg d).cls = .latch ∨ d = 6 → t.cc.mode = .restricted ∧ t.cc.boostRemaining = none ∧
        PendingAll .chargeMode t)) ∧
  ∀ (s : State) (d : Fin 32), d = 4 ∨ d = 5 ∨ d = 6 → s.cc.mode = .restricted →
    s.cc.restriction = Restriction.set d true ⟨false, false, false⟩ →
    (restrict d false s).cc.mode = .float ∧ PendingAll .chargeMode (restrict d false s) ∧
    (restrict d false s).cc.restriction = ⟨false, false, false⟩ ∧ (restrict d true s) = s

/-- R51: SET CHARGE MODE, by the mode asked for, the hours and the present mode. -/
def Obligations.SetChargeModeFollowsItsTable : Prop :=
  ∀ (s : State) (q : Port) (f : Frame), NewRequest reqSetChargeMode q f s → ∀ mode hours : Byte, f.args = [mode, hours] →
    (s.pc.siteHold = true ∧ q ≠ .craft →
      exec (.setChargeMode q f) s = .next (answered reqSetChargeMode q f (.rejected .held) [] s)) ∧
    (s.pc.siteHold = false ∨ q = .craft →
      (mode ≠ 0#8 → mode ≠ 1#8 → exec (.setChargeMode q f) s = .next (answered reqSetChargeMode q f (.rejected .range) [] s)) ∧
      (mode = 0#8 ∨ mode = 1#8 → s.cc.mode = .restricted →
        exec (.setChargeMode q f) s = .next (answered reqSetChargeMode q f (.rejected .state) [] s)) ∧
      (mode = 1#8 → s.cc.mode ≠ .restricted → ∃ t, exec (.setChargeMode q f) s = .next t ∧
        RespondedTaken reqSetChargeMode q f (hours.toNat < 1 ∨ 24 < hours.toNat)
          ([1#8] ++ be1 (max 1 (min 24 hours.toNat) : Nat)) t ∧
        t.cc.mode = .boost ∧ t.cc.boostRemaining = some (max 1 (min 24 hours.toNat) * 60) ∧ t.cc.taperExit = 0 ∧
        t.cc.armed = s.cc.armed ∧ t.cc.refreshDone = s.cc.refreshDone ∧ (s.cc.mode ≠ .boost → PendingAll .chargeMode t)) ∧
      (mode = 0#8 → s.cc.mode ≠ .restricted → ∃ t, exec (.setChargeMode q f) s = .next t ∧
        Responded reqSetChargeMode q f .done [] t ∧ t.cc.mode = .float ∧ t.cc.armed = false ∧ t.cc.refreshDone = true ∧
        (s.cc.mode ≠ .float → t.cc.boostRemaining = none ∧ PendingAll .chargeMode t)))

/-! ### The rectifier shelf bus (04_the_rectifier_shelf_bus.md) -/

/-- R65, R68, R74 and R176: the poll an attempt sends. The first poll of an exchange carries the module record's command, setpoint and limit (in the
discovery round STANDBY, the Charge Controller's setpoint and a tenth of MOD_RATING); a repeat carries the frame in flight, but for a RUN that the
record no longer gives. Its seven bytes sum to 0. -/
def Obligations.PollsAreFormedFromTheRecords : Prop :=
  let sends (k : Slot) (p : Poll) (t : State) : Prop :=
    (t.sbc.lastFrame.getD []).length = 7 ∧ (t.sbc.lastFrame.getD []).sum = 0#8 ∧
    (t.sbc.lastFrame.getD []).take 6 =
      [BitVec.ofNat 8 k.val, p.cmd.code, BitVec.ofNat 8 (p.setpoint / 256), BitVec.ofNat 8 p.setpoint,
       BitVec.ofNat 8 (p.limit / 256), BitVec.ofNat 8 p.limit]
  (∀ s : State, s.sbc.fitted = 0#12 → s.sbc.exch = none → exec .pollAttemptStart s = .next s) ∧
  (∀ s : State, s.sbc.exch = none → (s.startStep = .discovery ∨ s.startStep = .running) → s.isFitted s.sbc.cursor = true →
    ∃ t, exec .pollAttemptStart s = .next t ∧ ∃ p, t.sbc.exch = some ⟨s.sbc.cursor, 1, p, true, []⟩ ∧
      (t.link s.sbc.cursor).lastPoll = some p ∧ sends s.sbc.cursor p t ∧
      (s.startStep = .discovery → p = ⟨.standby, s.cc.setpoint, s.cfg .modRating / 10⟩) ∧
      (s.startStep = .running → p.cmd = (if s.rc.shut then .shut else (s.mod s.sbc.cursor).service.cmd) ∧
        p.setpoint = (s.mod s.sbc.cursor).setpoint ∧ p.limit = (s.mod s.sbc.cursor).limit)) ∧
  ∀ (s : State) (x : Exchange), s.sbc.exch = some x →
    (x.windowOpen = true → exec .pollAttemptStart s = .next s) ∧
    (x.windowOpen = false → ∃ t, exec .pollAttemptStart s = .next t ∧ t.sbc.exch = some { x with windowOpen := true } ∧
      ∃ p, (t.link x.slot).lastPoll = some p ∧ sends x.slot p t ∧ p.setpoint = x.frame.setpoint ∧ p.limit = x.frame.limit ∧
        p.cmd = (if x.frame.cmd = .run ∧ s.command x.slot ≠ .run then s.command x.slot else x.frame.cmd))

/-- R62, R67, R69, R72, R75, R88 and R90: a good reply ends its exchange, brings the link record up to date with the bad replies the exchange has drawn
(notes/assumptions/44.md) and reaches the module it answers for. A LOST module that returns and an ABSENT one that first answers go to STANDBY whatever
their output state. In the discovery round the exchange of the highest fitted slot ends the round, and the RC takes its result. -/
def Obligations.GoodRepliesAreTaken : Prop :=
  ∀ (s : State) (x : Exchange), s.sbc.exch = some x → x.windowOpen = true → ∀ p : Reply, p.current < 65536 → -128 ≤ p.temp →
    p.temp ≤ 127 → p.code ≤ 5 → (p.code = 0 ↔ p.out ≠ .fault) →
    let out : Byte := match p.out with
      | .off => 0#8
      | .on => 1#8
      | .limit => 2#8
      | .fault => 3#8
    let body : List Byte := [BitVec.ofNat 8 x.slot.val, out, BitVec.ofNat 8 (p.current / 256), BitVec.ofNat 8 p.current,
      BitVec.ofInt 8 p.temp, BitVec.ofNat 8 p.code]
    ∃ t, exec (.replyFrameReceived (body ++ [-body.sum])) s = .next t ∧
      t.sbc.exch = none ∧ t.sbc.cursor = s.nextFitted x.slot ∧
      t.link x.slot =
        { s.link x.slot with
          lastGood := some p
          answered := true
          silence := 0
          badTally := min 65535 ((s.link x.slot).badTally + x.bads.length)
          lastBad := x.bads.head?.or (s.link x.slot).lastBad } ∧
      (RoundUnderWay s → (∀ j : Slot, s.isFitted j = true → j ≤ x.slot) →
        RoundTaken (fun k => if s.isFitted k = false then none else if k = x.slot then some p else (s.link k).lastGood) t) ∧
      (s.startStep ≠ .discovery →
        ((s.mod x.slot).service = .lost ∧ (s.link x.slot).answered = true ∧ 3 ≤ (s.link x.slot).silence ∨
            (s.mod x.slot).service = .absent ∧ (s.link x.slot).answered = false →
          (t.mod x.slot).service ≠ .lost ∧ (t.mod x.slot).service ≠ .absent ∧ (t.mod x.slot).service ≠ .running ∧
          (s.marked 13 x.slot = false → s.marked 14 x.slot = false → p.out ≠ .fault →
            (t.mod x.slot).service = .standby ∨ (t.mod x.slot).service = .starting)) ∧
        (p.out ≠ .fault → (t.mod x.slot).fault = none) ∧
        (p.out = .fault → p.code ≠ 1 → (t.mod x.slot).fault = some p.code ∧ t.marked 13 x.slot = true) ∧
        ((s.link x.slot).answered = true → 3 ≤ (s.link x.slot).silence → t.marked 15 x.slot = false) ∧
        ((s.link x.slot).answered = true → (s.link x.slot).silence < 3 →
          ((s.mod x.slot).service = .running → p.out = .off → (t.mod x.slot).service = .running ∧
            (t.mod x.slot).dropout = some ((s.mod x.slot).dropout.getD 0)) ∧
          ((s.mod x.slot).service = .running → (p.out = .on ∨ p.out = .limit) → (t.mod x.slot).service = .running ∧
            (t.mod x.slot).dropout = none) ∧
          ((s.mod x.slot).service = .starting → (p.out = .on ∨ p.out = .limit) → SwapRight s →
            (t.mod x.slot).service = .running ∧
              ∀ h : Slot, s.rc.swap = some (h, x.slot) → t.rc.swap = none ∧ (t.mod h).service = .stopping) ∧
          ((s.mod x.slot).service = .stopping → p.out = .off → s.sc.source = .none → (t.mod x.slot).service = .standby)))

/-- R62, R67, R68, R70, R71, R75 and R78: a bad reply repeats the poll and leaves the link record as it was, the third ends the exchange as a miss, at
which the link record takes the bad replies of the exchange (notes/assumptions/44.md), and the third miss in a row makes the module LOST and, if it has
answered since start, marks it under MODULE-LOST. In the discovery round a miss of the highest fitted slot ends the round, and the RC takes its result. -/
def Obligations.BadRepliesAndMisses : Prop :=
  ∀ (s : State) (x : Exchange), s.sbc.exch = some x → x.windowOpen = true →
    let after (cause : BadCause) (t : State) : Prop :=
      (x.attempt < 3 → t = s.withSbc
        { s.sbc with exch := some { x with attempt := x.attempt + 1, windowOpen := false, bads := cause :: x.bads } }) ∧
      (3 ≤ x.attempt → t.sbc.exch = none ∧ t.sbc.cursor = s.nextFitted x.slot ∧
        (t.link x.slot).badTally = min 65535 ((s.link x.slot).badTally + (x.bads.length + 1)) ∧
        (t.link x.slot).lastBad = some cause ∧ (t.link x.slot).lastGood = (s.link x.slot).lastGood ∧
        (t.link x.slot).silence = min 255 ((s.link x.slot).silence + 1) ∧
        (t.link x.slot).missTally = min 65535 ((s.link x.slot).missTally + 1) ∧
        (RoundUnderWay s → (∀ j : Slot, s.isFitted j = true → j ≤ x.slot) →
          RoundTaken (fun k => if s.isFitted k = false then none else (s.link k).lastGood) t) ∧
        (s.startStep ≠ .discovery → (s.link x.slot).silence = 2 →
          ((s.link x.slot).answered = true → t.marked 15 x.slot = true) ∧
          ((s.mod x.slot).service = .standby ∨ (s.mod x.slot).service = .starting ∨ (s.mod x.slot).service = .running ∨
            (s.mod x.slot).service = .stopping ∨ (s.mod x.slot).service = .resting → (t.mod x.slot).service = .lost) ∧
          ((s.mod x.slot).service = .absent ∨ (s.mod x.slot).service = .held ∨ (s.mod x.slot).service = .retired →
            (t.mod x.slot).service = (s.mod x.slot).service) ∧
          (SwapRight s → ∀ h l : Slot, s.rc.swap = some (h, l) → x.slot = h ∨ x.slot = l → t.rc.swap = none)) ∧
        (s.startStep ≠ .discovery → (s.link x.slot).silence ≠ 2 → t.rc = s.rc))
    (∃ t, exec .replyWindowClose s = .next t ∧ after .noReply t) ∧
    ∀ bytes : List Byte, 7 ≤ bytes.length →
      (7 < bytes.length ∨ bytes.sum ≠ 0#8 → ∃ t, exec (.replyFrameReceived bytes) s = .next t ∧ after .check t) ∧
      (bytes.length = 7 → bytes.sum = 0#8 → (bytes.getD 0 0#8).toNat ≠ x.slot.val →
        ∃ t, exec (.replyFrameReceived bytes) s = .next t ∧ after .wrongSlot t) ∧
      (bytes.length = 7 → bytes.sum = 0#8 → (bytes.getD 0 0#8).toNat = x.slot.val →
        (3 < (bytes.getD 1 0#8).toNat ∨ 5 < (bytes.getD 5 0#8).toNat ∨ (bytes.getD 5 0#8 = 0#8 ∧ bytes.getD 1 0#8 = 3#8) ∨
          (bytes.getD 5 0#8 ≠ 0#8 ∧ bytes.getD 1 0#8 ≠ 3#8)) →
        ∃ t, exec (.replyFrameReceived bytes) s = .next t ∧ after .malformed t)

/-! ### Demand, walk-in and rotation (05_demand_walk_in_and_rotation.md) -/

/-- R82 to R86 at a demand evaluation: raw need, n_need, capacity short, the placed setpoint and limit, the walk-in queue as R84 trims or fills it,
the start of its first module when the walk-in timer is idle and one more may start (R85), and the removal hold. The raw need before the first usable
load current is the one that stands (the model's choice, notes/assumptions/45.md). -/
def Obligations.DemandEvaluationFormsTheNeed : Prop :=
  ∀ s : State, s.startStep = .running → ∃ t, exec .demandEvaluation s = .next t ∧
    (let available := s.countMods fun m => m.service == .standby || m.service == .starting || m.service == .running
     let amps (ch : Fin 12) : Nat := ((s.analog ch).usable.getD 0).toNat
     let want := if s.cc.mode = .boost ∨ s.cc.mode = .refresh then s.cc.total
       else amps 1 + (if s.au.acctB.isSome then amps 2 else 0)
     let load := (s.analog 3).usable
     t.rc.rawNeed = (match load with
       | none => s.rc.rawNeed
       | some v => max (s.cfg .minRunModules)
          (ceilDiv (v.toNat + want) (s.cfg .modRating * s.cfg .loadTargetPm / 1000) + s.cfg .spare)) ∧
     t.rc.nNeed = (if s.rc.shut ∨ s.sc.source = .none then 0
       else if s.sc.source = .generator then min (min t.rc.rawNeed available) (s.cfg .genCap)
       else min t.rc.rawNeed available) ∧
     t.rc.capShort = decide (available < t.rc.rawNeed) ∧
     (∀ k : Slot,
       (s.cfg .vbusMin ≤ s.cc.setpoint → s.cc.setpoint ≤ s.cfg .vbusMax → (t.mod k).setpoint = s.cc.setpoint) ∧
       (t.mod k).limit = (match load with
         | none => (s.mod k).limit
         | some v => max (s.cfg .modRating / 10)
            (min (s.cfg .modRating) (ceilDiv (v.toNat + s.cc.total) (max 1 t.onCount)))))) ∧
    t.rc.queue.length ≤ t.rc.nNeed - s.onCount ∧
    (QueueOfStandby s → ∃ q, QueueFilled s (t.rc.nNeed - s.onCount) s.rc.queue q ∧
      match q with
      | [] => t.rc.queue = [] ∧ t.rc.walkTimer = s.rc.walkTimer
      | k :: rest =>
        if s.rc.walkTimer = none ∧ s.onCount < t.rc.nNeed ∧ (s.sc.source = .generator → s.onCount < s.cfg .genCap) then
          t.rc.queue = rest ∧ t.rc.walkTimer = some (s.cfg .walkinS) ∧ (t.mod k).service = .starting ∧
            (t.mod k).startCount = min 65535 ((s.mod k).startCount + 1)
        else t.rc.queue = q ∧ t.rc.walkTimer = s.rc.walkTimer) ∧
    t.rc.removal = (if t.rc.nNeed < t.runningCount then some (s.rc.removal.getD 0) else none)

/-- R89: a start window or a dropout watch that runs out in the RC's second takes its module to STANDBY with the skip mark set, or on to the
state of the MODULE-MISMATCH action in force (R92), reports a MODULE-MISMATCH for its slot and raises MODULE-CHANGE. The states of the slot's turn
and after it are the model's `slotPrefix` and `slotSeconds` (notes/assumptions/18.md). The demand evaluation of that turn, which follows the report
(notes/assumptions/53.md), may start the module again only when no unmarked module is left in STANDBY (R84, `SkippedBy`). -/
def Obligations.StartMismatchIsReported : Prop :=
  ∀ (s : State) (r : Readings) (k : Slot),
    (((slotPrefix k r s).mod k).service = .starting → s.cfg .startWindowS ≤ ((slotPrefix k r s).mod k).timeIn →
      ∃ t, exec (.startWindowExpiry k r) s = .next t ∧ t.marked 14 k = true ∧ PendingAll .moduleChange t ∧
        SkippedBy (slotPrefix k r s) k (slotSeconds (k.val + 1) (rcCount (periodOutage r s)))) ∧
    (∀ n, ((slotPrefix k r s).mod k).service = .running → ((slotPrefix k r s).mod k).dropout = some n → s.cfg .startWindowS ≤ n →
      ∃ t, exec (.dropoutWatchExpiry k r) s = .next t ∧ t.marked 14 k = true ∧ PendingAll .moduleChange t ∧
        SkippedBy (slotPrefix k r s) k (slotSeconds (k.val + 1) (rcCount (periodOutage r s))))

/-- R89 and R92: a module still ON or LIMIT at its stop check is marked under MODULE-MISMATCH; a rest that runs out takes the module to STANDBY, from
which its demand evaluation may start it, or begins again while its fault stands. The states of the slot's turn and after it are the model's
`slotPrefix` and `slotSeconds` (notes/assumptions/18.md). -/
def Obligations.StopCheckAndRestExpire : Prop :=
  ∀ (s : State) (r : Readings) (k : Slot),
    (((slotPrefix k r s).mod k).service = .stopping → ((slotPrefix k r s).mod k).stopCheck = true →
      10 ≤ ((slotPrefix k r s).mod k).timeIn →
      ∃ t, exec (.stopCheck k r) s = .next t ∧
        (s.presentOutput k = some .on ∨ s.presentOutput k = some .limit → t.marked 14 k = true)) ∧
    (((slotPrefix k r s).mod k).service = .resting → s.cfg .recoverWait * 60 ≤ ((slotPrefix k r s).mod k).timeIn →
      ∃ t, exec (.restExpiry k r) s = .next t ∧
        (((slotPrefix k r s).mod k).fault = none → PendingAll .moduleChange t ∧ (t.mod k).service ≠ .resting ∧
          (((slotSeconds (k.val + 1) (rcCount (periodOutage r s))).mod k).service = .standby ∨
            ((slotSeconds (k.val + 1) (rcCount (periodOutage r s))).mod k).service = .starting) ∧
          ((s.detCfg 13).cls = .recover → t.marked 13 k = false)) ∧
        (((slotPrefix k r s).mod k).fault.isSome = true →
          ((slotSeconds (k.val + 1) (rcCount (periodOutage r s))).mod k).service = .resting ∧
          ((slotSeconds (k.val + 1) (rcCount (periodOutage r s))).mod k).timeIn = 0 ∧ (t.mod k).timeIn = 0))

/-- R85 and R86: the removal hold's expiry stops the RUNNING module with the most run minutes, the higher slot among equals; the walk-in timer's
expiry starts the first queued module if one more may start, and otherwise leaves the timer idle. The order inside the RC's second is
notes/assumptions/18.md's; supply evaluation and detector evaluation follow (notes/assumptions/2.md). -/
def Obligations.RemovalAndWalkIn : Prop :=
  (∀ (s : State) (r : Readings) (k : Slot), s.startStep = .running →
    ∀ n, (rcSlots (periodOutage r s)).rc.removal = some n → s.cfg .removeHoldMin * 60 ≤ n →
    ((rcSlots (periodOutage r s)).mod k).service = .running →
    (∀ j : Slot, ((rcSlots (periodOutage r s)).mod j).service = .running →
      ((rcSlots (periodOutage r s)).mod j).runMinutes < ((rcSlots (periodOutage r s)).mod k).runMinutes ∨
      ((rcSlots (periodOutage r s)).mod j).runMinutes = ((rcSlots (periodOutage r s)).mod k).runMinutes ∧ j ≤ k) →
    ∃ u, u = periodRc r s ∧ exec (.removalHoldExpiry r) s = .next (detectorEval (supplyEval u)) ∧ (u.mod k).service = .stopping ∧
      u.rc.removal = if u.rc.nNeed < u.runningCount then some 0 else none) ∧
  ∀ (s : State) (r : Readings), (rcRemoval (periodOutage r s)).rc.walkTimer = some 0 →
    ∃ u, u = periodRc r s ∧ exec (.walkInTimerExpiry r) s = .next (detectorEval (supplyEval u)) ∧
      (match (rcRemoval (periodOutage r s)).rc.queue with
       | [] => u.rc.walkTimer = none ∧ u.rc.queue = []
       | k :: rest =>
         if (rcRemoval (periodOutage r s)).onCount < (rcRemoval (periodOutage r s)).rc.nNeed ∧
            (s.sc.source = .generator → (rcRemoval (periodOutage r s)).onCount < s.cfg .genCap) then
           u.rc.walkTimer = some (s.cfg .walkinS) ∧
             (QueueOfStandby (rcRemoval (periodOutage r s)) → (u.mod k).service = .starting ∧
               (u.mod k).startCount = min 65535 (((rcRemoval (periodOutage r s)).mod k).startCount + 1) ∧ k ∉ u.rc.queue)
         else u.rc.walkTimer = none ∧ u.rc.queue = k :: rest)

/-- R95: a rotation event at a minute event clears the skip marks; off MAINS it is deferred by an hour; with a swap in flight it only begins the next
interval; otherwise the least worn STANDBY module starts in a swap with the most worn RUNNING one, when the margin allows. The event finds the
state as the boost timer and the run minutes leave it (the model's choice of order, `minuteRun`, notes/assumptions/2.md). R96: a swap in flight ends
when its L leaves STARTING by a start mismatch (its turn in the RC's second, notes/assumptions/18.md), when a hold takes its L or its H, and when the
source changes, and what then becomes of the other module; the ends by a reply and by a loss stand in `GoodRepliesAreTaken` and
`BadRepliesAndMisses`. -/
def Obligations.RotationEventMakesASwap : Prop :=
  (∀ (s : State) (r : Readings) (h l : Slot), (slotPrefix l r s).rc.swap = some (h, l) → SwapRight (slotPrefix l r s) →
    s.cfg .startWindowS ≤ ((slotPrefix l r s).mod l).timeIn →
    ∃ t, exec (.startWindowExpiry l r) s = .next t ∧ t.rc.swap = none ∧
      ((slotSeconds (l.val + 1) (rcCount (periodOutage r s))).mod h).service = .running) ∧
  (∀ (s : State) (q : Port) (f : Frame) (h l : Slot), FreeRequest reqHoldModule q f s → f.index.toNat < 12 → s.rc.swap = some (h, l) →
    SwapRight s →
    (slotOf f.index.toNat = l → ∃ t, exec (.holdModule q f) s = .next t ∧ t.rc.swap = none ∧ (t.mod h).service = .running) ∧
    (slotOf f.index.toNat = h → ∃ t, exec (.holdModule q f) s = .next t ∧ t.rc.swap = none ∧ (t.mod l).service = .starting)) ∧
  (∀ (s : State) (r : Readings) (h l : Slot), (periodRc r s).rc.swap = some (h, l) → SwapRight (periodRc r s) →
    ∃ u, u = periodSupply r s ∧ exec (.measurementPeriod r) s = .next (detectorEval u) ∧
      (u.sc.source ≠ s.sc.source → u.rc.swap = none ∧ (u.mod l).service = .stopping ∧
        (u.sc.source = .none → (u.mod h).service = .stopping))) ∧
  ∀ s : State, (minuteRun s).rc.rotation ≤ 1 →
    ∃ u, u = minuteRotation s ∧ exec .rotationEvent s = .next (rquMinute u) ∧ (∀ k : Slot, (u.mod k).skip = false) ∧
      ((minuteRun s).sc.source ≠ .mains → u.rc.rotation = 60 ∧ u.rc.swap = (minuteRun s).rc.swap) ∧
      ((minuteRun s).sc.source = .mains → u.rc.rotation = s.cfg .rotateH * 60 ∧
        ((minuteRun s).rc.swap.isSome = true → u.rc.swap = (minuteRun s).rc.swap) ∧
        ((minuteRun s).rc.swap = none → QueueOfStandby (minuteRun s) → ∀ h l : Slot, ((minuteRun s).mod h).service = .running →
          ((minuteRun s).mod l).service = .standby →
          (∀ j : Slot, ((minuteRun s).mod j).service = .running →
            ((minuteRun s).mod j).runMinutes < ((minuteRun s).mod h).runMinutes ∨
            ((minuteRun s).mod j).runMinutes = ((minuteRun s).mod h).runMinutes ∧ j ≤ h) →
          (∀ j : Slot, ((minuteRun s).mod j).service = .standby →
            ((minuteRun s).mod l).runMinutes < ((minuteRun s).mod j).runMinutes ∨
            ((minuteRun s).mod l).runMinutes = ((minuteRun s).mod j).runMinutes ∧ l ≤ j) →
          if ((minuteRun s).mod l).runMinutes + s.cfg .rotateMarginH * 60 < ((minuteRun s).mod h).runMinutes then
            u.rc.swap = some (h, l) ∧ (u.mod l).service = .starting ∧
              (u.mod l).startCount = min 65535 (((minuteRun s).mod l).startCount + 1) ∧ l ∉ u.rc.queue
          else u.rc.swap = none))

/-! ### Supply transfer and the generator sequence (06_supply_transfer_and_the_generator_sequence.md) -/

/-- R102 and R103: the mains state and count at a supply evaluation, and the steps of a mains fail and of a mains return. The state the evaluation
finds is the model's `periodRc` (notes/assumptions/2.md); the detector evaluation follows. -/
def Obligations.MainsStateMoves : Prop :=
  ∀ (s : State) (r : Readings),
    (∃ u, u = periodSupply r s ∧ exec (.measurementPeriod r) s = .next (detectorEval u) ∧
      (let good := (periodRc r s).mainsGood
       let n := s.sc.mainsCount + 1
       let back := if s.sc.startUp then 10 else s.cfg .mainsReturnMin * 60
       (u.sc.mains, u.sc.mainsCount) =
         if s.sc.startUp ∧ s.startStep ≠ .running then (.down, 0)
         else match s.sc.mains with
          | .down => if good then (.returning, 1) else (.down, 0)
          | .returning => if good then (if back ≤ n then (.up, 0) else (.returning, n)) else (.down, 0)
          | .up => if good then (.up, 0) else if s.cfg .mainsFailS ≤ 1 then (.down, 0) else (.failing, 1)
          | .failing => if good then (.up, 0) else if s.cfg .mainsFailS ≤ n then (.down, 0) else (.failing, n))) ∧
    (¬(s.sc.startUp = true ∧ s.startStep ≠ .running) → (periodRc r s).mainsGood = false →
      (s.sc.mains = .up ∧ s.cfg .mainsFailS ≤ 1 ∨ s.sc.mains = .failing ∧ s.cfg .mainsFailS ≤ s.sc.mainsCount + 1) →
      ∃ u, u = periodSupply r s ∧ exec (.mainsFail r) s = .next (detectorEval u) ∧ u.sc.mains = .down ∧ u.sc.mainsLost = true ∧
        u.sc.mc.closed = false ∧ u.sc.transferring .toMains = false ∧ u.sc.source ≠ .mains ∧ PendingAll .supplyChange u) ∧
    (¬(s.sc.startUp = true ∧ s.startStep ≠ .running) → (periodRc r s).mainsGood = true → s.sc.mains = .returning →
      (if s.sc.startUp then 10 else s.cfg .mainsReturnMin * 60) ≤ s.sc.mainsCount + 1 →
      ∃ u, u = periodSupply r s ∧ exec (.mainsReturn r) s = .next (detectorEval u) ∧ u.sc.mains = .up ∧ u.sc.mainsLost = false ∧
        PendingAll .supplyChange u ∧
        (s.sc.seq.state = .preStart ∨ s.sc.seq.state = .cranking ∨ s.sc.seq.state = .crankRest ∨ s.sc.seq.state = .warmUp →
          0 < s.cfg .outageDelayMin → ∀ x ∈ u.rqu.reqs, x.reason ≠ .mainsFail))

/-- R104 and R121: the start-up period ends at its tenth supply evaluation, with mains lost set if the mains is not UP; the stop pulse ends in OFF
with the stop output off, or with fail-to-stop set if the engine is not seen absent. That a pulse counts on in the OFF a release has entered is the
model's choice (notes/assumptions/52.md). -/
def Obligations.StartUpPeriodAndStopPulseEnd : Prop :=
  ∀ (s : State) (r : Readings),
    (s.sc.startUp = true → s.startStep = .running → 9 ≤ s.sc.startCount →
      ∃ t, exec (.startUpPeriodEnd r) s = .next t ∧ t.sc.startUp = false ∧ (t.sc.mains ≠ .up → t.sc.mainsLost = true)) ∧
    (s.sc.seq.stopPulse = 1 → s.sc.seq.state = .off → s.sc.transferring .toGenerator = false →
      ∃ u, u = periodSupply r s ∧ exec (.stopPulseEnd r) s = .next (detectorEval u) ∧ u.sc.seq.stopPulse = 0 ∧
        ((completePeriod r s).running = some false → u.sc.seq.stop = false) ∧
        ((completePeriod r s).running ≠ some false → u.sc.seq.state = .off ∧ u.sc.seq.failStop = true ∧
          u.sc.seq.stop = s.sc.seq.stop))

/-- R106: once the opening contactor, commanded OPEN, has had its auxiliary open for BREAK_MS with no inhibit, the closing contactor is commanded
CLOSED; before that nothing happens but that the time is told. A write of BREAK_MS at or below the open time, and a clearing of the inhibit at which
the open time has run out, end the phase at that event. The milliseconds since the latest supply evaluation are those BREAK_PHASE_END has told
(notes/assumptions/6.md). R105: at step 7 of a supply evaluation a transfer TO-MAINS begins under its five conditions and under them alone, and its
BREAK phase ends there if GC's auxiliary has been open long enough; the state the closure is tested in is the model's `closureNow`
(notes/assumptions/46.md), and for a sequence in OFF, STOPPING or LOCKED-OUT the conditions are those before the period, the mains state aside. R107: a
contactor is mismatched when its command is 2 s old or more and its auxiliary's latest reading differs from it; a mains fail at that evaluation has
just commanded MC OPEN. -/
def Obligations.BreakPhaseEndsInMake : Prop :=
  (∀ (s : State) (r : Readings), ∃ u, u = periodSupply r s ∧ exec (.measurementPeriod r) s = .next (detectorEval u) ∧
    (let x := closureNow r s
     if x.sc.mains = .up ∧ x.sc.mc.closed = false ∧ x.sc.gc.closed = false ∧ x.sc.transfer = none ∧ x.sc.inhibit = false ∧
        ¬(x.sc.seq.state = .warmUp ∧ x.sc.seq.warmDone = true ∧ x.loadCalled = true) then
       u.sc.gc.closed = false ∧
         (if (x.sc.gc.openMs.any fun n => s.cfg .breakMs ≤ n) = true then
            u.sc.transfer = some (.toMains, .mk) ∧ u.sc.mc.closed = true ∧ u.sc.mc.age = 0
          else u.sc.transfer = some (.toMains, .brk) ∧ u.sc.mc.closed = false)
     else u = x) ∧
    ((s.sc.seq.state = .off ∨ s.sc.seq.state = .stopping ∨ s.sc.seq.state = .lockedOut) → s.sc.transfer = none →
      s.sc.mc.closed = false → s.sc.gc.closed = false →
      if u.sc.mains = .up ∧ s.sc.inhibit = false then u.sc.transferring .toMains = true
      else u.sc.transfer = none ∧ u.sc.mc.closed = false) ∧
    (let fails : Prop := ¬(s.sc.startUp = true ∧ s.startStep ≠ .running) ∧ (periodRc r s).mainsGood = false ∧
       (s.sc.mains = .up ∧ s.cfg .mainsFailS ≤ 1 ∨ s.sc.mains = .failing ∧ s.cfg .mainsFailS ≤ s.sc.mainsCount + 1)
     (u.sc.mc.mismatch = true ↔ 2 ≤ s.sc.mc.age + 1 ∧ r.inputs[9] ≠ s.sc.mc.closed ∧ ¬(fails ∧ s.sc.mc.closed = true)) ∧
     (u.sc.gc.mismatch = true ↔ 2 ≤ s.sc.gc.age + 1 ∧ r.inputs[10] ≠ s.sc.gc.closed))) ∧
  (∀ (s : State) (ms : Nat) (d : Direction), s.sc.transfer = some (d, .brk) →
    (∀ n, (s.sc.contactor d.opening).openMs = some n → s.cfg .breakMs ≤ n + ms → s.sc.inhibit = false →
      (s.sc.contactor d.opening).closed = false → (s.sc.contactor d.closing).closed = false →
      ∃ t, exec (.breakPhaseEnd ms) s = .next t ∧ t.sc.transfer = some (d, .mk) ∧ (t.sc.contactor d.closing).closed = true ∧
        (t.sc.contactor d.closing).age = 0 ∧ (t.sc.contactor d.opening).closed = false) ∧
    (s.sc.inhibit = true ∨ (s.sc.contactor d.opening).closed = true ∨ (s.sc.contactor d.opening).openMs = none ∨
      (∃ n, (s.sc.contactor d.opening).openMs = some n ∧ n + max s.sc.sinceEval ms < s.cfg .breakMs) →
      exec (.breakPhaseEnd ms) s = .next (s.withSc { s.sc with sinceEval := max s.sc.sinceEval ms }))) ∧
  ∀ (s : State) (q : Port) (f : Frame) (d : Direction) (n : Nat), s.sc.transfer = some (d, .brk) →
    (s.sc.contactor d.opening).openMs = some n → (s.sc.contactor d.opening).closed = false → (s.sc.contactor d.closing).closed = false →
    (∀ fld b3 b2 b1 b0 : Byte, FreeRequest reqSetSetting q f s → f.args = [fld, b3, b2, b1, b0] →
      settingOf f.index.toNat f.args = some (.plain .breakMs) → s.sc.inhibit = false →
      max 500 (min 5000 (int32 b3 b2 b1 b0).toNat) ≤ n + s.sc.sinceEval →
      ∃ t, exec (.setSetting q f) s = .next t ∧ t.sc.transfer = some (d, .mk) ∧ (t.sc.contactor d.closing).closed = true) ∧
    (FreeRequest reqReleaseDetector q f s → f.index.toNat = 20 → (s.det 20).state = .latched → s.condition 20 = false →
      s.actionOf 20 = true → s.cfg .breakMs ≤ n + s.sc.sinceEval →
      ∃ t, exec (.releaseDetector q f) s = .next t ∧ t.sc.inhibit = false ∧ t.sc.transfer = some (d, .mk) ∧
        (t.sc.contactor d.closing).closed = true)

/-- R110: the entry from OFF to PRE-START when start and work are wanted, the start-up period and the hold-off are over, the stop output is off, the
engine is seen absent without a fault and no lock-out stands, and that OFF is kept without them; a PRESTART_S of 0 runs out at the entry (R108).
R111: the expiries of PRESTART_S, CRANK_S and REST_S while work is wanted and the engine is not seen running, and an engine seen running. The
state with the sequence's timers advanced is the model's `timedNow` (notes/assumptions/17.md). -/
def Obligations.CrankingStatesExpire : Prop :=
  (∀ (s : State) (r : Readings), s.sc.seq.state = .off → s.sc.transferring .toGenerator = false →
    ∃ u, u = periodSupply r s ∧ exec (.measurementPeriod r) s = .next (detectorEval u) ∧
      (let x := timedNow r s
       if x.sc.ind.start = true ∧ x.workWanted = true ∧ x.sc.startUp = false ∧ x.sc.seq.holdOff = 0 ∧ x.sc.seq.stop = false ∧
          x.running = some false ∧ x.faultLevel = some false ∧ x.sc.lockOut = false then
         u.sc.seq.limit = s.cfg .attempts ∧ u.sc.seq.seconds = 0 ∧ PendingAll .generatorState u ∧
         (if s.cfg .prestartS = 0 then u.sc.seq.state = .cranking ∧ u.sc.seq.attempts = 1 ∧ u.sc.seq.crank = true ∧ u.sc.seq.glow = false
          else u.sc.seq.state = .preStart ∧ u.sc.seq.attempts = 0 ∧ u.sc.seq.glow = true ∧ u.sc.seq.crank = false)
       else u.sc.seq = x.sc.seq)) ∧
  ∀ (s : State) (r : Readings), (timedNow r s).faultLevel ≠ some true → s.sc.transferring .toGenerator = false →
    ((timedNow r s).running ≠ some true → (timedNow r s).workWanted = true →
      (s.sc.seq.state = .preStart → s.cfg .prestartS ≤ (timedNow r s).sc.seq.seconds →
        ∃ u, u = periodSupply r s ∧ exec (.prestartExpiry r) s = .next (detectorEval u) ∧ u.sc.seq.state = .cranking ∧
          u.sc.seq.attempts = s.sc.seq.attempts + 1 ∧ u.sc.seq.glow = false ∧ u.sc.seq.crank = true ∧ u.sc.seq.seconds = 0) ∧
      (s.sc.seq.state = .cranking → s.cfg .crankS ≤ (timedNow r s).sc.seq.seconds →
        ∃ u, u = periodSupply r s ∧ exec (.crankExpiry r) s = .next (detectorEval u) ∧ u.sc.seq.crank = false ∧
          u.sc.seq.attempts = s.sc.seq.attempts ∧
          (if s.sc.seq.attempts < s.sc.seq.limit then u.sc.seq.state = .crankRest
           else u.sc.seq.state = .lockedOut ∧ u.sc.seq.failStart = true)) ∧
      (s.sc.seq.state = .crankRest → s.cfg .restS ≤ (timedNow r s).sc.seq.seconds →
        ∃ u, u = periodSupply r s ∧ exec (.crankRestExpiry r) s = .next (detectorEval u) ∧ u.sc.seq.state = .cranking ∧
          u.sc.seq.attempts = s.sc.seq.attempts + 1 ∧ u.sc.seq.crank = true)) ∧
    ((timedNow r s).running = some true → 0 < s.cfg .warmupS →
      (s.sc.seq.state = .preStart ∨ s.sc.seq.state = .cranking ∨ s.sc.seq.state = .crankRest) →
      ∃ u, u = periodSupply r s ∧ exec (.measurementPeriod r) s = .next (detectorEval u) ∧ u.sc.seq.state = .warmUp ∧
        u.sc.seq.warmDone = false ∧ u.sc.seq.glow = false ∧ u.sc.seq.crank = false)

/-- R112: WARM-UP, the engine running with no fault. Its time runs out and warm-up done becomes set; with load called and the generator good for
GEN_QUAL_S a transfer TO-GENERATOR begins and MC is opened; a qualify wait of 300 ends in a failed start. R106 and R113: with the GC auxiliary closed in
its MAKE phase the transfer ends, the source is GENERATOR and the sequence enters ON-LOAD with a fresh minimum run. R119: load no longer called during
the transfer abandons it and opens GC (under transfer inhibit too: the model's choice, notes/assumptions/49.md). The order inside the evaluation is
notes/assumptions/17.md's. -/
def Obligations.WarmUpQualifiesTheGenerator : Prop :=
  (∀ (s : State) (r : Readings), s.sc.seq.state = .warmUp → s.sc.seq.warmDone = true → s.sc.transferring .toGenerator = true →
    (timedNow r s).running = some true → (timedNow r s).faultLevel ≠ some true →
    ∃ u, u = periodSupply r s ∧ exec (.measurementPeriod r) s = .next (detectorEval u) ∧
      ((timedNow r s).loadCalled = true → s.sc.transfer = some (.toGenerator, .mk) →
        (s.sc.gc.closed = true → s.sc.mc.closed = false → ((completePeriod r s).input 10).level = some true →
          u.sc.transfer = none ∧ u.sc.source = .generator ∧ u.sc.seq.state = .onLoad ∧ u.sc.seq.seconds = 0 ∧ u.sc.seq.runSec = some 0 ∧
            u.sc.seq.minElapsed = false ∧ PendingAll .generatorState u ∧ ∀ x ∈ u.rqu.reqs, x.serviceable = true → x.isServed = true) ∧
        (((completePeriod r s).input 10).level ≠ some true →
          u.sc.transfer = some (.toGenerator, .mk) ∧ u.sc.seq.state = .warmUp ∧ u.sc.gc.closed = s.sc.gc.closed)) ∧
      ((timedNow r s).loadCalled = false → u.sc.transferring .toGenerator = false ∧ u.sc.gc.closed = false ∧
        ((timedNow r s).sc.ind.idle = true → u.sc.seq.state = .warmUp ∧ u.sc.seq.offLoad = true ∧ u.sc.seq.runSec.isSome = true) ∧
        ((timedNow r s).sc.ind.idle = false →
          if (timedNow r s).sc.seq.runSec = none ∨ (timedNow r s).sc.seq.minElapsed = true then
            u.sc.seq.state = (if s.cfg .cooldownS = 0 then .stopping else .coolDown)
          else u.sc.seq.state = .warmUp))) ∧
  ∀ (s : State) (r : Readings), s.sc.seq.state = .warmUp → s.sc.transferring .toGenerator = false →
    (timedNow r s).running = some true → (timedNow r s).faultLevel = some false →
    (s.sc.seq.warmDone = false → (timedNow r s).workWanted = true → s.cfg .warmupS ≤ (timedNow r s).sc.seq.seconds →
      s.sc.seq.qualWait < 299 →
      ∃ u, u = periodSupply r s ∧ exec (.warmupExpiry r) s = .next (detectorEval u) ∧ u.sc.seq.warmDone = true ∧
        ((timedNow r s).loadCalled = false → u.sc.seq.state = .warmUp ∧ u.sc.seq.offLoad = true ∧ u.sc.seq.runSec.isSome = true)) ∧
    (s.sc.seq.warmDone = true → (timedNow r s).loadCalled = true → s.sc.inhibit = false →
      s.cfg .genQualS ≤ (timedNow r s).sc.genGood →
      ((timedNow r s).input inGcAux).level ≠ some true →
      ∃ u, u = periodSupply r s ∧ exec (.transferToGeneratorBegin r) s = .next (detectorEval u) ∧ u.sc.mc.closed = false ∧
        u.sc.transferring .toGenerator = true ∧ u.sc.seq.state = .warmUp ∧ u.sc.seq.offLoad = false) ∧
    (s.sc.seq.warmDone = true → (timedNow r s).loadCalled = true → s.sc.inhibit = false →
      (timedNow r s).sc.genGood < s.cfg .genQualS → 299 ≤ s.sc.seq.qualWait →
      ∃ u, u = periodSupply r s ∧ exec (.qualifyWaitExpiry r) s = .next (detectorEval u) ∧ u.sc.seq.state = .lockedOut ∧
        u.sc.seq.failStart = true ∧ u.sc.seq.stop = true)

/-- R113 to R117: the minimum run elapses on load; with it elapsed and load no longer called the generator is unloaded; a COOL-DOWN that runs out with
nothing wanted enters STOPPING; a stall opens GC and gives OFF, CRANK-REST or LOCKED-OUT; in STOPPING an absent engine gives OFF with its hold-off, and
30 seconds without it give fail-to-stop; a present fault level locks the set out. A stall and a fault abandon a transfer TO-GENERATOR. The state with the
sequence's timers advanced is the model's `timedNow` (notes/assumptions/17.md). -/
def Obligations.RunCoolDownAndStop : Prop :=
  ∀ (s : State) (r : Readings),
    (s.sc.transferring .toGenerator = false → (timedNow r s).running = some true → (timedNow r s).faultLevel = some false →
      (∀ n, s.sc.seq.state = .onLoad → (timedNow r s).loadCalled = true → s.sc.seq.minElapsed = false → s.sc.seq.runSec = some n →
        s.cfg .minrunMin * 60 ≤ min 65535 (n + 1) →
        ∃ u, u = periodSupply r s ∧ exec (.minimumRunElapsed r) s = .next (detectorEval u) ∧ u.sc.seq.minElapsed = true ∧
          u.sc.seq.state = .onLoad) ∧
      (s.sc.seq.state = .coolDown → (timedNow r s).workWanted = false → s.cfg .cooldownS ≤ (timedNow r s).sc.seq.seconds →
        ∃ u, u = periodSupply r s ∧ exec (.cooldownExpiry r) s = .next (detectorEval u) ∧ u.sc.seq.state = .stopping ∧
          u.sc.seq.stop = true ∧ u.sc.seq.runSec = none) ∧
      (s.sc.seq.state = .onLoad → (timedNow r s).loadCalled = false → (timedNow r s).sc.seq.minElapsed = true →
        ∃ u, u = periodSupply r s ∧ exec (.measurementPeriod r) s = .next (detectorEval u) ∧
          (let held := (timedNow r s).sc.mains = .up ∧ ((timedNow r s).sc.inhibit = true ∨ (timedNow r s).sc.transfer.isSome = true)
           (held → u.sc.seq.state = .onLoad ∧ u.sc.gc.closed = (timedNow r s).sc.gc.closed) ∧
           (¬held → u.sc.gc.closed = false ∧
             ((timedNow r s).sc.ind.idle = true → u.sc.seq.state = .warmUp ∧ u.sc.seq.warmDone = true ∧ u.sc.seq.offLoad = true ∧
               u.sc.seq.minElapsed = true) ∧
             ((timedNow r s).sc.ind.idle = false →
               u.sc.seq.state = (if s.cfg .cooldownS = 0 then .stopping else .coolDown) ∧ u.sc.seq.runSec = none) ∧
             ((timedNow r s).sc.mains = .up → u.sc.transferring .toMains = true ∨ u.sc.source = .mains) ∧
             ((timedNow r s).sc.mains ≠ .up → (timedNow r s).sc.transfer = none → u.sc.source ≠ .generator ∧
               u.sc.mc.closed = (timedNow r s).sc.mc.closed))))) ∧
    ((timedNow r s).running = some false → (timedNow r s).faultLevel = some false →
      (s.sc.seq.state = .warmUp ∨ s.sc.seq.state = .onLoad ∨ s.sc.seq.state = .coolDown) →
      ∃ u, u = periodSupply r s ∧ exec (.measurementPeriod r) s = .next (detectorEval u) ∧ u.sc.gc.closed = false ∧
        u.sc.transferring .toGenerator = false ∧ u.sc.source ≠ .generator ∧ u.sc.seq.runSec = none ∧ u.sc.seq.minElapsed = false ∧
        (s.sc.seq.state = .coolDown → u.sc.seq.state = .off ∧ u.sc.seq.holdOff = s.cfg .restS) ∧
        (s.sc.seq.state ≠ .coolDown →
          if s.sc.seq.attempts < s.sc.seq.limit then u.sc.seq.state = .crankRest ∧ u.sc.seq.attempts = s.sc.seq.attempts
          else u.sc.seq.state = .lockedOut ∧ u.sc.seq.failStart = true)) ∧
    (s.sc.transferring .toGenerator = false → s.sc.seq.state = .stopping → (timedNow r s).faultLevel ≠ some true →
      ((timedNow r s).running = some false → ∃ u, u = periodSupply r s ∧ exec (.measurementPeriod r) s = .next (detectorEval u) ∧
        u.sc.seq.state = .off ∧ u.sc.seq.holdOff = s.cfg .restS ∧ u.sc.seq.stop = false ∧ u.sc.seq.failStop = false) ∧
      ((timedNow r s).running ≠ some false → 30 ≤ (timedNow r s).sc.seq.seconds → s.sc.seq.failStop = false →
        s.sc.seq.stopPulse ≠ 1 →
        ∃ u, u = periodSupply r s ∧ exec (.failToStop r) s = .next (detectorEval u) ∧ u.sc.seq.state = .stopping ∧
          u.sc.seq.failStop = true ∧ u.sc.seq.stop = s.sc.seq.stop)) ∧
    ((timedNow r s).faultLevel = some true → s.sc.seq.state ≠ .off → s.sc.seq.state ≠ .lockedOut →
      ∃ u, u = periodSupply r s ∧ exec (.measurementPeriod r) s = .next (detectorEval u) ∧ u.sc.seq.state = .lockedOut ∧
        u.sc.gc.closed = false ∧ u.sc.transferring .toGenerator = false ∧ u.sc.source ≠ .generator ∧
        u.sc.seq.glow = false ∧ u.sc.seq.crank = false ∧ u.sc.seq.runSec = none)

/-! ### Run requests, the schedule and the fuel account (07_run_requests_the_schedule_and_the_fuel_account.md) -/

/-- R125, R127 and R129: the outage timer's expiry creates the MAINS-FAIL record; an EXERCISE or PORT-RUN record whose served minutes reach its
minimum at a minute event leaves the collection, with REQUEST-DONE to the port of a PORT-RUN record. The timer runs out at a measurement completion
(the model's choice, notes/assumptions/5.md). -/
def Obligations.OutageAndServedMinutes : Prop :=
  (∀ (s : State) (r : Readings) (n : Nat), s.rqu.outage = some n → n ≤ 1 →
    ∃ u, u = periodOutage r s ∧ exec (.outageTimerExpiry r) s = .next (detectorEval (supplyEval (rcSecond u))) ∧ u.rqu.outage = none ∧
      ∃ x ∈ u.rqu.reqs, x.reason = .mainsFail ∧ x.origin = .internal ∧ x.cls = .normal ∧ x.onLoad = true ∧ x.minMinutes = none) ∧
  ∀ s : State, ∀ x ∈ s.rqu.reqs, (x.reason = .exercise ∨ x.reason = .portRun) → ∀ m, x.minMinutes = some m →
    m ≤ (if x.isServed then min 65535 (x.served + 1) else x.served) → RequestsDistinct s →
    (s.clk.isSet = false ∨ s.rqu.schedule = []) →
    ∃ t, exec (.servedMinutesComplete x.origin) s = .next t ∧
      (∀ y ∈ t.rqu.reqs, ¬(y.reason = x.reason ∧ y.origin = x.origin)) ∧
      (∀ q, x.reason = .portRun → x.origin = .port q → PendingAt q .requestDone t)

/-- R126, R128, R129 and R130 at the request evaluation of an account update: the BATTERY-LOW record, the serviceable marks, the records served and
the four indications. -/
def Obligations.RequestEvaluationFormsTheIndications : Prop :=
  ∀ s : State, ∃ t, exec .accountUpdate s = .next t ∧
    (s.sc.source = .none → t.lowestSoc < s.cfg .recoverPm →
      (t.lowestSoc ≤ s.cfg .lowPm ∨ ∃ a ∈ t.accounts, a.runtime ≠ 65535 ∧ a.runtime ≤ s.cfg .runtimeLow) →
      ∃ x ∈ t.rqu.reqs, x.reason = .batteryLow ∧ x.origin = .internal ∧ x.onLoad = true ∧
        x.cls = if t.lowestSoc ≤ s.cfg .critPm then .critical else .normal) ∧
    (s.cfg .recoverPm ≤ t.lowestSoc ∨
      s.sc.source = .mains ∧ (s.sc.seq.state = .off ∨ s.sc.seq.state = .stopping ∨ s.sc.seq.state = .lockedOut) →
      ∀ x ∈ t.rqu.reqs, x.reason ≠ .batteryLow) ∧
    (∀ x ∈ t.rqu.reqs, (x.serviceable = true ↔
      (s.cfg .genMode = 2 ∨ s.cfg .genMode = 1 ∧ (x.origin = .port .exchange ∨ x.origin = .port .telemetry ∨ x.origin = .port .craft)) ∧
      (x.cls = .critical ∨ x.cls = .normal ∨ x.cls = .deferrable ∧ s.clk.isSet = true ∧
        (s.cfg .windowStart < s.cfg .windowEnd ∧ s.cfg .windowStart ≤ s.clk.minute ∧ s.clk.minute < s.cfg .windowEnd ∨
         s.cfg .windowEnd < s.cfg .windowStart ∧ (s.cfg .windowStart ≤ s.clk.minute ∨ s.clk.minute < s.cfg .windowEnd))) ∧
      (t.rqu.exhausted = false ∧ (t.rqu.reserve = true → x.cls = .critical)) ∧ s.sc.seq.state ≠ .lockedOut) ∧
      (x.serviceable = true → (s.sc.seq.state = .warmUp ∨ s.sc.seq.state = .onLoad) → x.isServed = true)) ∧
    (t.rqu.ind.start = true ↔ ∃ x ∈ t.rqu.reqs, x.serviceable = true) ∧
    (t.rqu.ind.mainsFail = true ↔ ∃ x ∈ t.rqu.reqs, x.reason = .mainsFail ∧ (x.isServed = true ∨ x.serviceable = true)) ∧
    (t.rqu.ind.others = true ↔
      ∃ x ∈ t.rqu.reqs, x.reason ≠ .mainsFail ∧ x.onLoad = true ∧ (x.isServed = true ∨ x.serviceable = true)) ∧
    (t.rqu.ind.idle = true ↔ ∃ x ∈ t.rqu.reqs, x.onLoad = false ∧ (x.isServed = true ∨ x.serviceable = true)) ∧
    (t.rqu.reserve = true ↔ t.rqu.fuel < s.cfg .reserveL * 10) ∧
    (t.rqu.exhausted = true ↔ t.rqu.fuel = 0 ∨ ∃ v, (s.analog 11).usable = some v ∧ v < 20)

/-- R135 and R137 at a minute event: the burn while the engine runs, and the reconcile count, the refuel and the drift while it stands still. -/
def Obligations.FuelBurnsAndReconciles : Prop :=
  (∀ s : State, s.running = some true → ∃ t, exec .minuteEvent s = .next t ∧
    (let n := if s.sc.seq.state = .onLoad then min (minuteRotation s).runningCount (s.cfg .genCap) else 0
     let rate := s.cfg .burnIdle + (s.cfg .burnFull - s.cfg .burnIdle) * n / s.cfg .genCap
     t.rqu.burnRate = rate ∧ t.rqu.fuel = s.rqu.fuel - (s.rqu.residue + rate) / 60 ∧ t.rqu.residue = (s.rqu.residue + rate) % 60) ∧
    t.rqu.reconcileCount = 0 ∧ t.rqu.reconcileDue = s.rqu.reconcileDue ∧ t.rqu.lastReading = s.rqu.lastReading) ∧
  (∀ s : State, s.running ≠ some true → (s.running = none ∨ (s.analog 11).usable = none) →
    ∃ t, exec .minuteEvent s = .next t ∧ t.rqu.fuel = s.rqu.fuel ∧ t.rqu.residue = s.rqu.residue ∧
      t.rqu.burnRate = s.rqu.burnRate ∧ t.rqu.reconcileCount = 0 ∧ t.rqu.reconcileDue = s.rqu.reconcileDue ∧
      t.rqu.lastReading = s.rqu.lastReading) ∧
  ∀ s : State, s.running = some false → ∀ level : Nat, (s.analog 11).usable = some (level : Int) →
    (s.rqu.reconcileDue = false → s.rqu.reconcileCount < 14 → ∃ t, exec .minuteEvent s = .next t ∧
      t.rqu.reconcileCount = s.rqu.reconcileCount + 1 ∧ t.rqu.fuel = s.rqu.fuel ∧ t.rqu.residue = s.rqu.residue ∧
      t.rqu.lastReading = s.rqu.lastReading) ∧
    (s.rqu.reconcileDue = true ∨ 14 ≤ s.rqu.reconcileCount → ∃ t, exec .reconcile s = .next t ∧
      t.rqu.reconcileCount = 0 ∧ t.rqu.reconcileDue = false ∧ t.rqu.residue = s.rqu.residue ∧
      (let figure := level * s.cfg .tankL / 100
       t.rqu.lastReading = some figure ∧
       ((∃ x, s.rqu.lastReading = some x ∧ x + s.cfg .tankL * s.cfg .refuelStepPct / 10 < figure) →
         t.rqu.fuel = figure ∧ PendingAll .refuel t) ∧
       (¬(∃ x, s.rqu.lastReading = some x ∧ x + s.cfg .tankL * s.cfg .refuelStepPct / 10 < figure) →
         t.rqu.fuel = if s.cfg .reconcileL * 10 < ((s.rqu.fuel : Int) - figure).natAbs then figure else s.rqu.fuel)))

/-- R127: REQUEST RUN creates the port's PORT-RUN record, or gives the one it has a new minimum and keeps its served minutes; CANCEL RUN removes it;
both are refused with HELD during a site hold from P or T. -/
def Obligations.RunRequestsComeAndGo : Prop :=
  (∀ (s : State) (q : Port) (f : Frame), NewRequest reqRequestRun q f s → ∀ m1 m0 : Byte, f.args = [m1, m0] →
    (s.pc.siteHold = true ∧ q ≠ .craft → exec (.requestRun q f) s = .next (answered reqRequestRun q f (.rejected .held) [] s)) ∧
    (s.pc.siteHold = false ∨ q = .craft → ∃ t, exec (.requestRun q f) s = .next t ∧
      (let m := m1.toNat * 256 + m0.toNat
       let n := max 15 (min 480 m)
       RespondedTaken reqRequestRun q f (m < 15 ∨ 480 < m) (be2 n) t ∧
       (∃ x ∈ t.rqu.reqs, x.reason = .portRun ∧ x.origin = .port q ∧ x.cls = .normal ∧ x.onLoad = true ∧ x.minMinutes = some n) ∧
       (∀ x ∈ t.rqu.reqs, x.reason = .portRun → x.origin = .port q →
         (x.served = 0 ∧ ∀ y ∈ s.rqu.reqs, ¬(y.reason = .portRun ∧ y.origin = .port q)) ∨
         ∃ y ∈ s.rqu.reqs, y.reason = .portRun ∧ y.origin = .port q ∧ y.served = x.served ∧ y.created = x.created)))) ∧
  ∀ (s : State) (q : Port) (f : Frame), NewRequest reqCancelRun q f s →
    (s.pc.siteHold = true ∧ q ≠ .craft → exec (.cancelRun q f) s = .next (answered reqCancelRun q f (.rejected .held) [] s)) ∧
    (s.pc.siteHold = false ∨ q = .craft →
      ((∀ x ∈ s.rqu.reqs, ¬(x.reason = .portRun ∧ x.origin = .port q)) →
        exec (.cancelRun q f) s = .next (answered reqCancelRun q f (.rejected .state) [] s)) ∧
      ((∃ x ∈ s.rqu.reqs, x.reason = .portRun ∧ x.origin = .port q) → ∃ t, exec (.cancelRun q f) s = .next t ∧
        Responded reqCancelRun q f .done [] t ∧
        t.rqu.reqs.map (fun x => (x.reason, x.origin, x.served)) =
          (s.rqu.reqs.filter fun x => !(x.reason == .portRun && x.origin == .port q)).map (fun x => (x.reason, x.origin, x.served)) ∧
        (∀ p, PendingAt p .requestDone t ↔ PendingAt p .requestDone s)))

/-- R132 and R134: ADD SCHEDULE ENTRY is refused as a duplicate or when the schedule is full, and otherwise the entry joins after every entry due at
or before it; REMOVE SCHEDULE ENTRY takes the entry of its kind and due time, or is refused with RANGE. R133 and R52: at a minute event with the
clock set an entry alone due at the time the event gives acts by its kind, raises SCHEDULE-DONE if it is to be notified, and is put back at its first
repetition after that time or leaves; an entry not due yet stands. A kind outside the three is refused with RANGE (R173). The rotation value a due
ROTATE entry leaves is that of the model's order inside the minute event, the RQU's work last (notes/assumptions/2.md). -/
def Obligations.ScheduleEntriesJoinAndLeave : Prop :=
  (∀ (s : State) (q : Port) (f : Frame), FreeRequest reqAddScheduleEntry q f s →
    ∀ kind d1 d0 m1 m0 i1 i0 u1 u0 notify : Byte, f.args = [kind, d1, d0, m1, m0, i1, i0, u1, u0, notify] → ∀ k, kindOf kind = some k →
    let due : PlantTime := ⟨d1.toNat * 256 + d0.toNat, min 1439 (m1.toNat * 256 + m0.toNat)⟩
    let i := i1.toNat * 256 + i0.toNat
    let u := u1.toNat * 256 + u0.toNat
    let e : SchedEntry := ⟨k, due, if i = 0 then 0 else max 60 (min 40320 i),
      match k with
      | .exercise => some (max 10 (min 240 u))
      | .boostCharge => some (max 60 (min 1440 u))
      | .rotate => none, q, notify != 0#8⟩
    ((∃ x ∈ s.rqu.schedule, x.kind = k ∧ x.due = due) →
      exec (.addScheduleEntry q f) s = .next (answered reqAddScheduleEntry q f (.rejected .duplicate) [] s)) ∧
    ((∀ x ∈ s.rqu.schedule, ¬(x.kind = k ∧ x.due = due)) → 24 ≤ s.rqu.schedule.length →
      exec (.addScheduleEntry q f) s = .next (answered reqAddScheduleEntry q f (.rejected .full) [] s)) ∧
    ((∀ x ∈ s.rqu.schedule, ¬(x.kind = k ∧ x.due = due)) → s.rqu.schedule.length < 24 →
      ∃ t, exec (.addScheduleEntry q f) s = .next t ∧
        t.rqu = { s.rqu with schedule := s.rqu.schedule.takeWhile (fun x => x.due.abs ≤ due.abs) ++ e ::
          s.rqu.schedule.dropWhile fun x => x.due.abs ≤ due.abs } ∧
        (t.port q).sent.map Response.status = some
          (if m1.toNat * 256 + m0.toNat ≤ 1439 ∧ i = e.interval ∧ (k = .rotate ∨ e.duration = some u) ∧ notify.toNat ≤ 1
           then .done else .clamped))) ∧
  (∀ (s : State) (q : Port) (f : Frame), FreeRequest reqRemoveScheduleEntry q f s →
    ∀ kind d1 d0 m1 m0 : Byte, f.args = [kind, d1, d0, m1, m0] → ∀ k, kindOf kind = some k →
    let due : PlantTime := ⟨d1.toNat * 256 + d0.toNat, min 1439 (m1.toNat * 256 + m0.toNat)⟩
    ((∀ x ∈ s.rqu.schedule, ¬(x.kind = k ∧ x.due = due)) →
      exec (.removeScheduleEntry q f) s = .next (answered reqRemoveScheduleEntry q f (.rejected .range) [] s)) ∧
    ((∃ x ∈ s.rqu.schedule, x.kind = k ∧ x.due = due) → ∃ t, exec (.removeScheduleEntry q f) s = .next t ∧
      t.rqu = { s.rqu with schedule := s.rqu.schedule.filter fun x => !(x.kind == k && x.due == due) } ∧
      (m1.toNat * 256 + m0.toNat ≤ 1439 → Responded reqRemoveScheduleEntry q f .done [] t))) ∧
  (∀ (s : State) (q : Port) (f : Frame), FreeRequest reqAddScheduleEntry q f s → ∀ kind ∈ f.args.head?, 3 ≤ kind.toNat →
    exec (.addScheduleEntry q f) s = .next (answered reqAddScheduleEntry q f (.rejected .range) [] s)) ∧
  (∀ (s : State) (q : Port) (f : Frame), FreeRequest reqRemoveScheduleEntry q f s → ∀ kind ∈ f.args.head?, 3 ≤ kind.toNat →
    exec (.removeScheduleEntry q f) s = .next (answered reqRemoveScheduleEntry q f (.rejected .range) [] s)) ∧
  (∀ s : State, ∃ t, exec .minuteEvent s = .next t ∧
    (s.clk.isSet = false ∨ (∀ e ∈ s.rqu.schedule.head?, t.clk.day * 1440 + t.clk.minute < e.due.abs) →
      t.rqu.schedule = s.rqu.schedule ∧ ∀ q, (t.port q).schedDone = (s.port q).schedDone)) ∧
  ∀ (s : State) (e : SchedEntry) (rest : List SchedEntry), s.clk.isSet = true → s.rqu.schedule = e :: rest →
    ∃ t, exec .minuteEvent s = .next t ∧
      (let now := t.clk.day * 1440 + t.clk.minute
       e.due.abs ≤ now → (∀ x ∈ rest, now < x.due.abs) →
       (match e.kind with
        | .exercise => ∃ x ∈ t.rqu.reqs, x.reason = .exercise ∧ x.origin = .schedule ∧ x.cls = .deferrable ∧
            (x.onLoad = true ↔ s.cfg .exerciseOnLoad = 1) ∧ x.minMinutes = e.duration
        | .boostCharge => (s.cc.mode = .restricted → t.cc = s.cc) ∧
            (s.cc.mode ≠ .restricted → t.cc.mode = .boost ∧ t.cc.boostRemaining = some (e.duration.getD 0) ∧ t.cc.taperExit = 0 ∧
              (s.cc.mode ≠ .boost → PendingAll .chargeMode t))
        | .rotate => t.rc.rotation = (if s.sc.source = .mains then s.cfg .rotateH * 60 else 60) ∧ ∀ k : Slot, (t.mod k).skip = false) ∧
       (e.notify = true → PendingAt e.origin .scheduleDone t ∧ (t.port e.origin).schedDone = some (e.kind, e.due)) ∧
       (∀ q, e.notify = false ∨ q ≠ e.origin → (t.port q).schedDone = (s.port q).schedDone) ∧
       (e.interval = 0 → t.rqu.schedule = rest) ∧
       (0 < e.interval → ∃ n, now < n ∧ n ≤ now + e.interval ∧ (∃ k, 1 ≤ k ∧ n = e.due.abs + k * e.interval) ∧
         t.rqu.schedule =
           if 65535 * 1440 + 1439 < n ∨ ∃ x ∈ rest, x.kind = e.kind ∧ x.due = ⟨n / 1440, n % 1440⟩ then rest
           else rest.takeWhile (fun x => x.due.abs ≤ n) ++ { e with due := ⟨n / 1440, n % 1440⟩ } ::
             rest.dropWhile fun x => x.due.abs ≤ n))

/-- R138: RESET FUEL sets F, clamped to the tank, with residue 0, forms the fuel indications and keeps the last reconcile reading. -/
def Obligations.ResetFuelSetsTheAccount : Prop :=
  ∀ (s : State) (q : Port) (f : Frame), FreeRequest reqResetFuel q f s → ∀ b3 b2 b1 b0 : Byte, f.args = [b3, b2, b1, b0] →
    ∃ t, exec (.resetFuel q f) s = .next t ∧
      (let v := ((b3.toNat * 256 + b2.toNat) * 256 + b1.toNat) * 256 + b0.toNat
       let n := min (s.cfg .tankL * 10) v
       RespondedTaken reqResetFuel q f (s.cfg .tankL * 10 < v) (be4 n) t ∧ t.rqu.fuel = n ∧ t.rqu.residue = 0 ∧
       t.rqu.lastReading = s.rqu.lastReading ∧ t.rqu.reconcileDue = s.rqu.reconcileDue ∧
       (t.rqu.reserve = true ↔ n < s.cfg .reserveL * 10) ∧
       (t.rqu.exhausted = true ↔ n = 0 ∨ ∃ x, (s.analog 11).usable = some x ∧ x < 20))

/-! ### Detectors, alarm relays and load shedding (08_detectors_alarm_relays_and_load_shedding.md) -/

/-- R144: every detector not under proof moves by the table at the detector evaluation of a measurement period; the entry to ACTIVE from CLEAR or
QUALIFYING is a new occurrence, and so is the return of a LATCHED detector's condition; LATCHED from ACTIVE and CLEAR from HOLDING raise
DETECTOR-CHANGE. The model's choices: the state that evaluation finds is `periodSupply`
(notes/assumptions/2.md), the detectors take their turns ids ascending (`evalBelow`, notes/assumptions/43.md), the count on entering ACTIVE and
from HOLDING to CLEAR is the number reached (notes/assumptions/35.md), and ACTIVE to CLEAR at once raises no DETECTOR-CHANGE at the detector's turn
(notes/assumptions/36.md). -/
def Obligations.DetectorsMoveByTheTable : Prop :=
  ∀ (s : State) (r : Readings) (d : Fin 32), s.underProof d = false →
    (∃ t, exec (.measurementPeriod r) s = .next t ∧
      ((t.det d).state, (t.det d).count) = detTable (s.detCfg d).qualify (s.detCfg d).hold
        (decide ((s.detCfg d).cls = .latch ∨ d = 3)) ((takeInputs (periodSupply r s)).condition d) (s.det d).state (s.det d).count ∧
      (t.det d).seen = (takeInputs (periodSupply r s)).condition d) ∧
    ((takeInputs (periodSupply r s)).condition d = true →
      ((s.det d).state = .clear ∧ (s.detCfg d).qualify ≤ 1 ∨
        (s.det d).state = .qualifying ∧ (s.detCfg d).qualify ≤ (s.det d).count + 1) →
      ∃ t, exec (.detectorQualified d r) s = .next t ∧ (t.det d).state = .active ∧ (t.det d).unseen = ⟨true, true, true⟩ ∧
        (t.det d).first = s.plantTime ∧ PendingAll .detectorChange t) ∧
    ((takeInputs (periodSupply r s)).condition d = false → (s.det d).state = .holding → (s.detCfg d).hold ≤ (s.det d).count + 1 →
      ∃ t, exec (.detectorHoldExpiry d r) s = .next t ∧ (t.det d).state = .clear ∧ PendingAll .detectorChange t) ∧
    ((takeInputs (periodSupply r s)).condition d = true → (s.det d).state = .latched →
      ∃ t, exec (.measurementPeriod r) s = .next t ∧ (t.det d).state = .latched ∧
        ((s.det d).seen = false → (t.det d).first = s.plantTime ∧ (t.det d).unseen = ⟨true, true, true⟩ ∧ PendingAll .detectorChange t) ∧
        ((s.det d).seen = true → (t.det d).first = ((periodSupply r s).det d).first ∧
          (t.det d).unseen = ((periodSupply r s).det d).unseen)) ∧
    ((takeInputs (periodSupply r s)).condition d = false → (s.det d).state = .active → (s.detCfg d).cls = .latch ∨ d = 3 →
      ∃ t, exec (.measurementPeriod r) s = .next t ∧ (t.det d).state = .latched ∧ PendingAll .detectorChange t) ∧
    ((takeInputs (periodSupply r s)).condition d = false → (s.det d).state = .active → (s.detCfg d).hold = 0 →
      (s.detCfg d).cls ≠ .latch → d ≠ 3 →
      ∃ t, exec (.measurementPeriod r) s = .next t ∧ (t.det d).state = .clear ∧
        ∀ q, PendingAt q .detectorChange (evalBelow (d.val + 1) (periodSupply r s)) ↔
          PendingAt q .detectorChange (evalBelow d.val (periodSupply r s)))

/-- R147, R150 and R151: a proof whose forced count reaches its qualify time brings its detector to PROVED, and the next evaluation ends it as PASSED;
a real condition ends it as INTERRUPTED, and the detector qualifies afresh; PROVE DETECTOR starts a proof of a CLEAR detector; RELEASE DETECTOR takes
a LATCHED detector whose condition is absent to CLEAR. The model's choices: the state the evaluation finds is `periodSupply` (notes/assumptions/2.md),
and the count of 1 where the interrupted detector is ACTIVE at once is the number reached (notes/assumptions/35.md). -/
def Obligations.ProofsAndReleases : Prop :=
  (∀ (s : State) (r : Readings) (p : Proof), s.du.proof = some p → (takeInputs (periodSupply r s)).condition p.id = false →
    ((s.det p.id).state = .clear ∧ p.qualify ≤ 1 ∨ (s.det p.id).state = .qualifying ∧ p.qualify ≤ (s.det p.id).count + 1) →
    ∃ t, exec (.proofProved p.id r) s = .next t ∧ (t.det p.id).state = .proved ∧ t.du.proof = some p ∧
      (t.det p.id).unseen = (s.det p.id).unseen) ∧
  (∀ (s : State) (r : Readings) (p : Proof), s.du.proof = some p → (takeInputs (periodSupply r s)).condition p.id = false →
    (s.det p.id).state = .proved →
    ∃ t, exec (.measurementPeriod r) s = .next t ∧ (t.det p.id).state = .clear ∧ (t.det p.id).count = 0 ∧ t.du.proof = none ∧
      (t.port p.port).proofResult = some (p.id, false) ∧ PendingAt p.port .proofResult t ∧
      ∀ q, q ≠ p.port → (t.port q).proofResult = (s.port q).proofResult) ∧
  (∀ (s : State) (r : Readings) (p : Proof), s.du.proof = some p → (takeInputs (periodSupply r s)).condition p.id = true →
    ∃ t, exec (.measurementPeriod r) s = .next t ∧ (t.det p.id).state = (if (s.detCfg p.id).qualify ≤ 1 then .active else .qualifying) ∧
      (t.det p.id).count = 1 ∧ t.du.proof = none ∧ (t.port p.port).proofResult = some (p.id, true) ∧
      PendingAt p.port .proofResult t ∧ ∀ q, q ≠ p.port → (t.port q).proofResult = (s.port q).proofResult) ∧
  (∀ (s : State) (q : Port) (f : Frame), NewRequest reqProveDetector q f s →
    if f.index.toNat ≥ 32 then exec (.proveDetector q f) s = .next (answered reqProveDetector q f (.rejected .range) [] s)
    else if s.pc.siteHold = true ∧ q ≠ .craft then
      exec (.proveDetector q f) s = .next (answered reqProveDetector q f (.rejected .held) [] s)
    else if s.du.proof.isSome = true then exec (.proveDetector q f) s = .next (answered reqProveDetector q f .busy [] s)
    else if (s.det (detOf f.index.toNat)).state ≠ .clear then
      exec (.proveDetector q f) s = .next (answered reqProveDetector q f (.rejected .state) [] s)
    else exec (.proveDetector q f) s = .next (answered reqProveDetector q f .done []
      (s.withDu { s.du with proof := some ⟨detOf f.index.toNat, q, (s.detCfg (detOf f.index.toNat)).qualify⟩ }))) ∧
  ∀ (s : State) (q : Port) (f : Frame), NewRequest reqReleaseDetector q f s →
    if f.index.toNat ≥ 32 then exec (.releaseDetector q f) s = .next (answered reqReleaseDetector q f (.rejected .range) [] s)
    else if s.pc.siteHold = true ∧ q ≠ .craft then
      exec (.releaseDetector q f) s = .next (answered reqReleaseDetector q f (.rejected .held) [] s)
    else if (s.det (detOf f.index.toNat)).state ≠ .latched ∨ s.condition (detOf f.index.toNat) = true then
      exec (.releaseDetector q f) s = .next (answered reqReleaseDetector q f (.rejected .state) [] s)
    else ∃ t, exec (.releaseDetector q f) s = .next t ∧ Responded reqReleaseDetector q f .done [] t ∧
      t.det (detOf f.index.toNat) = { s.det (detOf f.index.toNat) with state := .clear, count := 0 } ∧
      t.actionOf (detOf f.index.toNat) = false ∧ PendingAll .detectorChange t

/-- R154 and R155 at the SHC evaluation of an account update, for the stage's turn (the model's `stagePrefix`, notes/assumptions/26.md): a stage whose
delay runs out opens, or waits for the stages below; a waiting stage takes a follow time of 2 when the stage directly below opens; a follow time that
runs out opens its stage; the highest open stage, opened by the part, closes after REC_DELAY. -/
def Obligations.ShedStagesOpenAndClose : Prop :=
  ∀ (s : State) (k : Fin 4),
    ((stagePrefix k s).discCond k = true → (stagePrefix k s).recCond k = false → 0 < s.cfg .recDelay →
      ((stagePrefix k s).stage k).state = .closed →
      (((stagePrefix k s).stage k).follow = none → s.cfg .shedDelay ≤ min 65535 (((stagePrefix k s).stage k).discCount + 1) →
        ∃ t, exec (.shedDelayExpiry k) s = .next t ∧
          if ∀ j < k, (s.stage j).state ≠ .closed ∧ ((stagePrefix k s).stage j).state ≠ .closed then
            (t.stage k).state = .openAuto ∧ (t.stage k).waiting = false ∧ (t.stage k).follow = none ∧ PendingAll .shedChange t
          else (t.stage k).state = .closed ∧ (t.stage k).waiting = true) ∧
      (∀ n, ((stagePrefix k s).stage k).follow = some n → n ≤ 1 →
        (∀ j < k, (s.stage j).state ≠ .closed ∧ ((stagePrefix k s).stage j).state ≠ .closed) →
        ∃ t, exec (.followTimeExpiry k) s = .next t ∧ (t.stage k).state = .openAuto ∧ (t.stage k).waiting = false ∧
          (t.stage k).follow = none ∧ PendingAll .shedChange t)) ∧
    ((stagePrefix k s).discCond k = true → ((stagePrefix k s).stage k).state = .closed → ((stagePrefix k s).stage k).waiting = true →
      (∃ j : Fin 4, j.val + 1 = k.val ∧ (s.stage j).state = .closed ∧ ((stagePrefix k s).stage j).state ≠ .closed) →
      ∃ t, exec .accountUpdate s = .next t ∧ (t.stage k).state = .closed ∧ (t.stage k).waiting = true ∧ (t.stage k).follow = some 2) ∧
    ((stagePrefix k s).recCond k = true → ((stagePrefix k s).stage k).state = .openAuto →
      (∀ j : Fin 4, k < j → ((stagePrefix k s).stage j).state = .closed) →
      s.cfg .recDelay ≤ min 65535 (((stagePrefix k s).stage k).recCount + 1) → 2 ≤ (stagePrefix k s).shc.spacing →
      ∃ t, exec (.recDelayExpiry k) s = .next t ∧ (t.stage k).state = .closed ∧ (t.stage k).discCount = 0 ∧
        (t.stage k).recCount = 0 ∧ t.shc.spacing = 0 ∧ PendingAll .shedChange t)

/-- R156: SHED STAGE opens every stage up to the one named; RESTORE STAGE closes the highest open stage when it is OPEN-MANUAL or its reconnect
condition holds. -/
def Obligations.ShedRequestsMoveStages : Prop :=
  (∀ (s : State) (q : Port) (f : Frame), NewRequest reqShedStage q f s →
    if f.index.toNat = 0 ∨ 4 < f.index.toNat then exec (.shedStage q f) s = .next (answered reqShedStage q f (.rejected .range) [] s)
    else if s.pc.siteHold = true ∧ q ≠ .craft then exec (.shedStage q f) s = .next (answered reqShedStage q f (.rejected .held) [] s)
    else ∃ t, exec (.shedStage q f) s = .next t ∧ Responded reqShedStage q f .done [] t ∧
      ∀ j : Fin 4,
        (j.val + 1 < f.index.toNat → (t.stage j).waiting = false ∧ (t.stage j).follow = none ∧
          (t.stage j).state = if (s.stage j).state = .closed then .openManual else (s.stage j).state) ∧
        (j.val + 1 = f.index.toNat → (t.stage j).state = .openManual ∧ (t.stage j).waiting = false ∧ (t.stage j).follow = none ∧
          ((s.stage j).state ≠ .openManual → PendingAll .shedChange t)) ∧
        (f.index.toNat < j.val + 1 → (t.stage j).state = (s.stage j).state)) ∧
  ∀ (s : State) (q : Port) (f : Frame), NewRequest reqRestoreStage q f s →
    if f.index.toNat = 0 ∨ 4 < f.index.toNat then
      exec (.restoreStage q f) s = .next (answered reqRestoreStage q f (.rejected .range) [] s)
    else if s.pc.siteHold = true ∧ q ≠ .craft then
      exec (.restoreStage q f) s = .next (answered reqRestoreStage q f (.rejected .held) [] s)
    else if (∀ j : Fin 4, stageOf f.index.toNat < j → (s.stage j).state = .closed) ∧
        ((s.stage (stageOf f.index.toNat)).state = .openManual ∨
         (s.stage (stageOf f.index.toNat)).state = .openAuto ∧ s.recCond (stageOf f.index.toNat) = true) then
      ∃ t, exec (.restoreStage q f) s = .next t ∧ Responded reqRestoreStage q f .done [] t ∧
        t.stage (stageOf f.index.toNat) = ⟨.closed, 0, false, none, 0⟩ ∧ t.shc.spacing = 0 ∧ PendingAll .shedChange t ∧
        ∀ j : Fin 4, j ≠ stageOf f.index.toNat → t.stage j = s.stage j
    else exec (.restoreStage q f) s = .next (answered reqRestoreStage q f (.rejected .state) [] s)

/-! ### Master ports, requests and notices (09_master_ports_requests_and_notices.md), settings and plant time (10_...) -/

/-- R91 and R170 at a minute event: the clock advances while it is set and stops at its end; every slot whose present output state is ON or LIMIT
gains a run minute. -/
def Obligations.MinuteEventCounts : Prop :=
  ∀ s : State, ∃ t, exec .minuteEvent s = .next t ∧
    t.clk = (if s.clk.isSet = false then s.clk
      else if s.clk.minute < 1439 then ⟨s.clk.day, s.clk.minute + 1, true⟩
      else if s.clk.day < 65535 then ⟨s.clk.day + 1, 0, true⟩ else s.clk) ∧
    ∀ k : Slot, (t.mod k).runMinutes =
      if s.presentOutput k = some .on ∨ s.presentOutput k = some .limit then min 16777215 ((s.mod k).runMinutes + 1)
      else (s.mod k).runMinutes

/-- The eleven reads that change no plant state (R160): each is answered DONE with the bytes of its layout (R175, R177), or refused with RANGE for an
object that does not exist, the items being those the owners' rules list. The widths, counts, positions and codes R175 and R177 leave open are the
model's (notes/assumptions/5.md, 9.md, 11.md, 39.md, 47.md and 50.md), and so are READ SETTING's ends of a choice and of a fixed setting
(notes/assumptions/23.md). -/
def Obligations.ReadsAnswerAndChangeNothing : Prop :=
  ∀ (s : State) (q : Port) (f : Frame),
    (NewRequest reqReadAccount q f s → exec (.readAccount q f) s = .next
      (if f.index.toNat < 2 then answered reqReadAccount q f .done (dataAccount s (if f.index = 0#8 then .strA else .strB)) s
       else answered reqReadAccount q f (.rejected .range) [] s)) ∧
    (NewRequest reqReadModule q f s → exec (.readModule q f) s = .next
      (if f.index.toNat < 12 then answered reqReadModule q f .done (dataModule s (slotOf f.index.toNat)) s
       else answered reqReadModule q f (.rejected .range) [] s)) ∧
    (NewRequest reqReadSupply q f s →
      exec (.readSupply q f) s = .next (answered reqReadSupply q f .done (supplyBytes s.sc ++ chargeBytes s.cc) s)) ∧
    (NewRequest reqReadGenerator q f s →
      exec (.readGenerator q f) s = .next (answered reqReadGenerator q f .done (dataGenerator s) s)) ∧
    (NewRequest reqReadRequests q f s →
      exec (.readRequests q f) s = .next (answered reqReadRequests q f .done (dataRequests s) s)) ∧
    (NewRequest reqReadSchedule q f s → exec (.readSchedule q f) s = .next
      (if f.index.toNat < s.rqu.schedule.length then answered reqReadSchedule q f .done (dataSchedule s f.index.toNat) s
       else answered reqReadSchedule q f (.rejected .range) [] s)) ∧
    (NewRequest reqReadFuel q f s → exec (.readFuel q f) s = .next (answered reqReadFuel q f .done (dataFuel s.rqu) s)) ∧
    (NewRequest reqReadMeasurement q f s → exec (.readMeasurement q f) s = .next
      (if f.index.toNat ≤ 11 ∨ 16 ≤ f.index.toNat ∧ f.index.toNat ≤ 28 then
         answered reqReadMeasurement q f .done (dataMeasurement s f.index.toNat) s
       else answered reqReadMeasurement q f (.rejected .range) [] s)) ∧
    (NewRequest reqReadSetting q f s → exec (.readSetting q f) s = .next
      (match settingOf f.index.toNat f.args with
       | some k => answered reqReadSetting q f .done (be4 (s.ss.table.get k) ++ be4 (s.ss.table.ends k).1 ++
          be4 (s.ss.table.ends k).2 ++ be4 k.default ++ be1 (if s.ss.loadSource = .image then 0 else 1)) s
       | none => answered reqReadSetting q f (.rejected .range) [] s)) ∧
    (NewRequest reqReadClock q f s → exec (.readClock q f) s = .next (answered reqReadClock q f .done
      (be2 s.clk.day ++ be2 s.clk.minute ++ be1 (if s.clk.isSet then 1 else 0)) s)) ∧
    (NewRequest reqReadShed q f s → exec (.readShed q f) s = .next (answered reqReadShed q f .done (dataShed s) s))

/-- R148, R164 and R165: READ DETECTOR clears the port's own unseen flag for the detector, READ PENDING empties the pending set, READ SNAPSHOT gives the
port's slot or is refused with STATE; nothing else changes. The data bytes are those of R175 and R177, READ DETECTOR's with the widths and codes of
notes/assumptions/11.md, READ PENDING's absent details with the zero bytes of notes/assumptions/51.md. -/
def Obligations.ReadsThatCollect : Prop :=
  ∀ (s : State) (q : Port) (f : Frame),
    (NewRequest reqReadDetector q f s → exec (.readDetector q f) s = .next
      (if f.index.toNat < 32 then
        let d := detOf f.index.toNat
        answered reqReadDetector q f .done (dataDetector s d)
          (s.setDet d { s.det d with unseen := (s.det d).unseen.update q fun _ => false })
       else answered reqReadDetector q f (.rejected .range) [] s)) ∧
    (NewRequest reqReadPending q f s → exec (.readPending q f) s = .next
      (answered reqReadPending q f .done (dataPending s q) (s.onPort q fun p => { p with pendingSet := 0#13, attention := false }))) ∧
    (NewRequest reqReadSnapshot q f s → exec (.readSnapshot q f) s = .next
      (match (s.port q).slot with
       | some x => answered reqReadSnapshot q f .done (dataSnapshot x (s.port q).asked) s
       | none => answered reqReadSnapshot q f (.rejected .state) [] s))

/-- R159, R160 and R171: an acting request from P or T during a site hold is refused with HELD; a frame identical to the last one draws the last
response; a frame that fails its check is answered CHECK and not kept; a code outside the catalogue, and a code of the catalogue with another number of
argument bytes than its request takes, is answered UNKNOWN and, as the model reads R159 (notes/assumptions/12.md), kept; a request whose owner is not
set up yet is answered BUSY before the tests of object and HELD and, as the model reads R171 (notes/assumptions/24.md), not kept. -/
def Obligations.FramesTurnedAway : Prop :=
  (∀ (s : State) (c : Instr) (rq : Request) (q : Port) (f : Frame), requestOf c = some (rq, q, f) → NewRequest rq q f s →
    rq.heldOff = true → rq.objectExists s f.index.toNat f.args = true → s.pc.siteHold = true → q ≠ .craft →
    exec c s = .next (answered rq q f (.rejected .held) [] s)) ∧
  (∀ (s : State) (c : Instr) (rq : Request) (q : Port) (f : Frame), requestOf c = some (rq, q, f) → s.startStep ≠ .load →
    f.args.length = rq.argCount → (frameBytes rq.code f).sum = 0#8 →
    ((s.port q).lastFrame = some (frameBytes rq.code f) →
      exec c s = .next (s.onPort q fun p => { p with sent := p.lastResponse })) ∧
    ((s.port q).lastFrame ≠ some (frameBytes rq.code f) → s.startStep.ended < rq.setUpBy →
      exec c s = .next (s.onPort q fun p => { p with sent := some ⟨f.tag, .busy, []⟩ }))) ∧
  (∀ (s : State) (c : Instr) (rq : Request) (q : Port) (f : Frame), requestOf c = some (rq, q, f) → s.startStep ≠ .load →
    f.args.length ≤ 12 → f.args.length ≠ rq.argCount → (frameBytes rq.code f).sum = 0#8 →
    (s.port q).lastFrame ≠ some (frameBytes rq.code f) → exec c s = .next (answered rq q f (.rejected .unknown) [] s)) ∧
  ∀ (s : State) (q : Port) (tail : List Byte), s.startStep ≠ .load →
    ((tail.length < 4 ∨ 16 < tail.length ∨ (165#8 :: tail).sum ≠ 0#8) →
      exec (.uncataloguedRequestFrame q (165#8 :: tail)) s =
        .next (s.onPort q fun p => { p with sent := some ⟨tail.headD 0#8, .rejected .check, []⟩ })) ∧
    (4 ≤ tail.length → tail.length ≤ 16 → (165#8 :: tail).sum = 0#8 → (s.port q).lastFrame ≠ some (165#8 :: tail) →
      ((tail.getD 1 0#8).toNat ∉ List.range' 16 14 ++ List.range' 32 23 ∨
        ∃ rq ∈ catalogue, rq.code = (tail.getD 1 0#8).toNat ∧ rq.argCount ≠ tail.length - 4) →
      exec (.uncataloguedRequestFrame q (165#8 :: tail)) s = .next (s.onPort q fun p => { p with
        lastFrame := some (165#8 :: tail)
        lastResponse := some ⟨tail.headD 0#8, .rejected .unknown, []⟩
        sent := some ⟨tail.headD 0#8, .rejected .unknown, []⟩ }))

/-- R162, R164 and R165: SET MASK, TAKE SNAPSHOT, TAKE SITE HOLD and GIVE SITE HOLD, each with what it changes and nothing else; the capture for every
port that has asked, with all its content, at the account update (before the evaluations of the other blocks that follow it: the model's reading,
notes/assumptions/22.md). The data of SET MASK's CLAMPED answer is the model's layout (notes/assumptions/10.md). -/
def Obligations.PortStateRequests : Prop :=
  (∀ s : State, ∃ t, exec .accountUpdate s = .next t ∧ ∀ q,
    ((s.port q).asked = true → (t.port q).asked = false ∧ PendingAt q .snapshotReady t ∧ ∃ x, (t.port q).slot = some x ∧
      x.day = s.clk.day ∧ x.minute = s.clk.minute ∧ x.clockSet = s.clk.isSet ∧ x.acctA = t.au.acctA ∧ x.acctB = t.au.acctB ∧
      x.source = s.sc.source ∧ x.seq = s.sc.seq.state ∧
      x.services = [Service.absent, .standby, .starting, .running, .stopping, .resting, .retired, .held, .lost].map (fun v =>
        s.countMods fun m => m.service == v) ∧
      x.fuel = s.rqu.fuel ∧ x.residue = s.rqu.residue ∧
      x.stages = [(s.stage 0).state, (s.stage 1).state, (s.stage 2).state, (s.stage 3).state]) ∧
    ((s.port q).asked = false → (t.port q).asked = false ∧ (t.port q).slot = (s.port q).slot)) ∧
  ∀ (s : State) (q : Port) (f : Frame),
    (∀ m1 m0 : Byte, NewRequest reqSetMask q f s → f.args = [m1, m0] →
      let m : NoticeSet := BitVec.ofNat 13 (m1.toNat * 256 + m0.toNat)
      let u := s.onPort q fun p => { p with mask := m, attention := (p.pendingSet &&& ~~~m) != 0#13 }
      exec (.setMask q f) s = .next (if 8192 ≤ m1.toNat * 256 + m0.toNat then answered reqSetMask q f .clamped (be2 m.toNat) u
        else answered reqSetMask q f .done [] u)) ∧
    (NewRequest reqTakeSnapshot q f s → exec (.takeSnapshot q f) s =
      .next (answered reqTakeSnapshot q f .done [] (s.onPort q fun p => { p with asked := true }))) ∧
    (NewRequest reqTakeSiteHold q f s → exec (.takeSiteHold q f) s =
      .next (if q = .craft ∧ (s.input 8).level = some true then
          answered reqTakeSiteHold q f .done [] (s.withPc { s.pc with siteHold := true })
        else answered reqTakeSiteHold q f (.rejected .state) [] s)) ∧
    (NewRequest reqGiveSiteHold q f s → exec (.giveSiteHold q f) s =
      .next (if q = .craft then answered reqGiveSiteHold q f .done [] (s.withPc { s.pc with siteHold := false })
        else if s.pc.siteHold = true then answered reqGiveSiteHold q f (.rejected .held) [] s
        else answered reqGiveSiteHold q f (.rejected .state) [] s))

/-- R142, R167, R168, R170 and R174: SET SETTING writes the clamped value and no other setting: the nearest end of a plain or stage setting's range,
the low 12 bits for SLOT_FITTED, the nearest choice for a detector's setting, the value in force for the PROTECT detectors. A class written moves the
detector's state, its action and the relays at once (R145). SAVE SETTINGS copies the table and the schedule into the copy that is not the later valid
one, or is answered BUSY; SET CLOCK sets the clock. The model's choices: the copy holds its content from the start of the save
(notes/assumptions/28.md), a class of 4 or out of range (notes/assumptions/23.md), the data of a CLAMPED answer (notes/assumptions/10.md), the count of
a detector that a class write takes to ACTIVE or LATCHED (notes/assumptions/35.md). -/
def Obligations.SettingsAndClockRequests : Prop :=
  (∀ (s : State) (q : Port) (f : Frame), FreeRequest reqSetSetting q f s → ∀ fld b3 b2 b1 b0 : Byte,
    f.args = [fld, b3, b2, b1, b0] → ∀ k, settingOf f.index.toNat f.args = some k →
    ∃ t, exec (.setSetting q f) s = .next t ∧ ∃ v, v = t.ss.table.get k ∧
      t.ss.table = s.ss.table.set k v ∧
      (∀ x, k = .plain x → x ≠ .slotFitted → v = max (s.ss.table.range x).1 (min (s.ss.table.range x).2 (int32 b3 b2 b1 b0).toNat)) ∧
      (∀ j g, k = .stage j g → v =
        max (s.ss.table.stages[j].range g).1 (min (s.ss.table.stages[j].range g).2 (int32 b3 b2 b1 b0).toNat)) ∧
      (k = .plain .slotFitted → (v : Int) = int32 b3 b2 b1 b0 % 4096) ∧
      (∀ d g, k = .det d g → (d = 3 ∨ d = 6 ∨ d = 19) → v = s.ss.table.get k) ∧
      (∀ d g, k = .det d g → ¬(d = 3 ∨ d = 6 ∨ d = 19) →
        if g = .cls ∧ int32 b3 b2 b1 b0 = 4 then v = s.ss.table.get k
        else v ∈ choicesOf g ∧ ∀ c ∈ choicesOf g, (int32 b3 b2 b1 b0 - v).natAbs ≤ (int32 b3 b2 b1 b0 - c).natAbs) ∧
      RespondedTaken reqSetSetting q f ((v : Int) ≠ int32 b3 b2 b1 b0 || fixedEntry k) (fld :: be4 v) t ∧
      (∀ d g, k = .det d g → g = .cls ∨ g = .sev → RelaysRight t) ∧
      ∀ d, k = .det d .cls → ¬(d = 3 ∨ d = 6 ∨ d = 19) → ClassTaken d s t) ∧
  (∀ (s : State) (q : Port) (f : Frame), FreeRequest reqSetSetting q f s → settingOf f.index.toNat f.args = none →
    exec (.setSetting q f) s = .next (answered reqSetSetting q f (.rejected .range) [] s)) ∧
  (∀ (s : State) (q : Port) (f : Frame), FreeRequest reqSaveSettings q f s →
    (s.ss.save.isSome = true → exec (.saveSettings q f) s = .next (answered reqSaveSettings q f .busy [] s)) ∧
    (s.ss.save = none → ∃ t, exec (.saveSettings q f) s = .next t ∧ Responded reqSaveSettings q f .done [] t ∧
      ∃ i, t.ss.save = some ⟨i, q⟩ ∧ (t.ss.image.copy i).content = some ⟨s.ss.table, s.rqu.schedule⟩ ∧
        (t.ss.image.copy i).mark = false ∧ t.ss.image.copy i.other = s.ss.image.copy i.other ∧
        s.ss.image.later (freeCopy s.freeDraws) ≠ some i ∧ t.ss.table = s.ss.table)) ∧
  ∀ (s : State) (q : Port) (f : Frame), FreeRequest reqSetClock q f s → ∀ d1 d0 m1 m0 : Byte, f.args = [d1, d0, m1, m0] →
    ∃ t, exec (.setClock q f) s = .next t ∧
      (let m := m1.toNat * 256 + m0.toNat
       t.clk = ⟨d1.toNat * 256 + d0.toNat, min 1439 m, true⟩ ∧
       RespondedTaken reqSetClock q f (1439 < m) ([d1, d0] ++ be2 (min 1439 m : Nat)) t)

/-- R93, R94, R95 and R118: HOLD, RETURN and RELEASE MODULE by the service state, or refused with RANGE for an index of no slot; ROTATE NOW by the
source and the swap; RELEASE GENERATOR by the sequence, the engine and the lock-out action. -/
def Obligations.ModuleAndGeneratorRequests : Prop :=
  ∀ (s : State) (q : Port) (f : Frame),
    (FreeRequest reqHoldModule q f s → f.index.toNat < 12 →
      match (s.mod (slotOf f.index.toNat)).service with
      | .standby | .starting | .running | .stopping | .resting => ∃ t, exec (.holdModule q f) s = .next t ∧
          Responded reqHoldModule q f .done [] t ∧ (t.mod (slotOf f.index.toNat)).service = .held ∧
          (t.mod (slotOf f.index.toNat)).holdOrigin = some q ∧ slotOf f.index.toNat ∉ t.rc.queue ∧ PendingAll .moduleChange t
      | .held => exec (.holdModule q f) s = .next (answered reqHoldModule q f .done [] s)
      | .retired | .lost | .absent => exec (.holdModule q f) s = .next (answered reqHoldModule q f (.rejected .state) [] s)) ∧
    (FreeRequest reqReturnModule q f s → f.index.toNat < 12 →
      if (s.mod (slotOf f.index.toNat)).service ≠ .held then
        exec (.returnModule q f) s = .next (answered reqReturnModule q f (.rejected .state) [] s)
      else if q ≠ .craft ∧ (s.mod (slotOf f.index.toNat)).holdOrigin = some .craft ∧ (s.input 8).level = some true then
        exec (.returnModule q f) s = .next (answered reqReturnModule q f (.rejected .held) [] s)
      else ∃ t, exec (.returnModule q f) s = .next t ∧ Responded reqReturnModule q f .done [] t ∧
        (t.mod (slotOf f.index.toNat)).service ≠ .held ∧ (t.mod (slotOf f.index.toNat)).holdOrigin = none ∧
        PendingAll .moduleChange t ∧
        (s.sc.source = .none → RunFollowsSupply s → s.marked 13 (slotOf f.index.toNat) = false →
          s.marked 14 (slotOf f.index.toNat) = false → (t.mod (slotOf f.index.toNat)).service = .standby)) ∧
    (FreeRequest reqReleaseModule q f s → f.index.toNat < 12 →
      if (s.mod (slotOf f.index.toNat)).service ≠ .retired ∨ (s.mod (slotOf f.index.toNat)).fault.isSome = true then
        exec (.releaseModule q f) s = .next (answered reqReleaseModule q f (.rejected .state) [] s)
      else ∃ t, exec (.releaseModule q f) s = .next t ∧ Responded reqReleaseModule q f .done [] t ∧
        ((t.mod (slotOf f.index.toNat)).service = .standby ∨ (t.mod (slotOf f.index.toNat)).service = .starting) ∧
        (t.mod (slotOf f.index.toNat)).retireCause = none ∧ t.marked 13 (slotOf f.index.toNat) = false ∧
        t.marked 14 (slotOf f.index.toNat) = false) ∧
    (NewRequest reqHoldModule q f s → 12 ≤ f.index.toNat →
      exec (.holdModule q f) s = .next (answered reqHoldModule q f (.rejected .range) [] s)) ∧
    (NewRequest reqReturnModule q f s → 12 ≤ f.index.toNat →
      exec (.returnModule q f) s = .next (answered reqReturnModule q f (.rejected .range) [] s)) ∧
    (NewRequest reqReleaseModule q f s → 12 ≤ f.index.toNat →
      exec (.releaseModule q f) s = .next (answered reqReleaseModule q f (.rejected .range) [] s)) ∧
    (FreeRequest reqRotateNow q f s →
      if s.sc.source ≠ .mains then exec (.rotateNow q f) s = .next (answered reqRotateNow q f (.rejected .state) [] s)
      else if s.rc.swap.isSome = true then exec (.rotateNow q f) s = .next (answered reqRotateNow q f .busy [] s)
      else ∃ t, exec (.rotateNow q f) s = .next t ∧ Responded reqRotateNow q f .done [] t ∧
        t.rc.rotation = s.cfg .rotateH * 60 ∧ ∀ k : Slot, (t.mod k).skip = false) ∧
    (FreeRequest reqReleaseGenerator q f s →
      if s.sc.seq.state ≠ .lockedOut ∨ s.faultLevel ≠ some false ∨ s.sc.lockOut = true ∨ s.running ≠ some false then
        exec (.releaseGenerator q f) s = .next (answered reqReleaseGenerator q f (.rejected .state) [] s)
      else ∃ t, exec (.releaseGenerator q f) s = .next t ∧ Responded reqReleaseGenerator q f .done [] t ∧
        t.sc.seq.state = .off ∧ t.sc.seq.attempts = 0 ∧ t.sc.seq.failStart = false ∧ t.sc.seq.holdOff = 0 ∧
        t.sc.seq.stop = false ∧ PendingAll .generatorState t)

/-- R14, R121, R152, R157, R166, R170, R171 and R172: what a power-on or a cold restart sets up, and what a warm restart keeps and sets. R169: the table
and the schedule of the later valid image copy are loaded; R38, R40, R41, R97 and R140: the accounts, the run minutes and the fuel account of the
later valid checkpoint copy are restored; R60, R98 and R141: what a warm restart makes of the charge record, the service records and the run requests,
where it changes neither the source nor, by the detectors it hands back, a module. Start-up takes
steps 1 to 3 and begins step 4 in one command (notes/assumptions/4.md); the sequence record and the indications read take the values of
notes/assumptions/32.md where R121 names none. -/
def Obligations.RestartsSetUpTheirRecords : Prop :=
  (∀ s : State, ∃ t, exec .powerOn s = .next t ∧ exec .coldRestart s = .next t ∧ t.mu = Mu.initial ∧
    t.sc = Sc.initial (t.cfg .attempts) ∧ t.du = Du.initial ∧ t.shc = Shc.initial ∧ t.pc = Pc.initial ∧ t.clk = ⟨0, 0, false⟩ ∧
    t.ss.save = none ∧ t.ss.ckptWrite = none ∧ t.ss.ckptWaiting = none ∧ t.ss.image = s.ss.image ∧ t.ss.ckpt = s.ss.ckpt ∧
    t.cc.mode = .float ∧ t.cc.armed = true ∧ t.rqu.reconcileDue = true ∧ t.rqu.burnRate = 0 ∧ t.rqu.lastReading = none ∧
    (∀ k : Slot, t.link k = Link.initial ∧ (t.mod k).service = .absent ∧ (t.mod k).startCount = 0) ∧
    (t.sbc.fitted ≠ 0#12 → t.startStep = .discovery ∧ t.rc.nNeed = 0 ∧ t.rc.rawNeed = t.cfg .minRunModules) ∧
    (s.ss.image.first.isValid = false → s.ss.image.second.isValid = false →
      t.ss.table = Settings.defaults ∧ t.ss.loadSource = .defaults ∧ t.rqu.schedule = []) ∧
    (s.ss.ckpt.first.isValid = false → s.ss.ckpt.second.isValid = false →
      t.rqu.fuel = 0 ∧ t.au.acctA.q = t.au.acctA.cfull / 2 ∧ t.au.acctA.conf = .unsure) ∧
    (∀ i x, LaterValid s.ss.image i → (s.ss.image.copy i).content = some x →
      t.ss.table = x.table ∧ t.ss.loadSource = .image ∧ t.rqu.schedule = x.schedule) ∧
    (∀ i c, LaterValid s.ss.ckpt i → (s.ss.ckpt.copy i).content = some c →
      t.au.acctA = restoredOf (cfullOf t.ss.table .strA 5) c.strA ∧
      (t.cfg .strings ≠ 2 → t.au.acctB = none) ∧
      (t.cfg .strings = 2 → ∀ b, c.strB = some b → t.au.acctB = some (restoredOf (cfullOf t.ss.table .strB 5) b)) ∧
      (t.cfg .strings = 2 → c.strB = none → t.au.acctB = some (Account.half (cfullOf t.ss.table .strB 5))) ∧
      t.au.count = 0 ∧ t.au.imbalance = .notEvaluated ∧ (∀ k : Slot, (t.mod k).runMinutes = c.runMinutes[k]) ∧
      t.rqu.fuel = min c.fuel (t.cfg .tankL * 10) ∧ t.rqu.residue = c.fuelResidue)) ∧
  ∀ (s : State) (q : Port) (f : Frame), FreeRequest reqWarmRestart q f s → ∃ t, exec (.warmRestart q f) s = .next t ∧
    Responded reqWarmRestart q f .done [] t ∧ t.mu = s.mu ∧ t.au = s.au ∧ t.sbc = s.sbc ∧ t.clk = s.clk ∧ t.ss = s.ss ∧
    t.pc.siteHold = false ∧ t.du.proof = none ∧ t.shc.spacing = 0 ∧
    (∀ p, PendingAt p .restart t ∧ (t.port p).mask = (s.port p).mask ∧ (t.port p).slot = none ∧ (t.port p).asked = false) ∧
    (∀ k : Fin 4, t.stage k = ⟨(s.stage k).state, 0, false, none, 0⟩) ∧
    t.sc.transfer = none ∧ t.sc.genGood = 0 ∧ t.sc.mainsCount = 0 ∧ t.sc.mainsLost = s.sc.mainsLost ∧
    t.sc.startUp = s.sc.startUp ∧ t.sc.seq.stopPulse = 0 ∧
    t.sc.mains = (if s.sc.mains = .up ∨ s.sc.mains = .failing then .up else .down) ∧
    t.sc.seq.state = (if s.sc.seq.state = .lockedOut then .lockedOut
      else if s.running = some true then
        (if s.sc.gc.closed = true ∧ (s.input 10).level = some true then .onLoad else .coolDown)
      else .off) ∧
    (∀ d : Fin 32, ((t.det d).state = .latched ↔ ((s.detCfg d).cls = .latch ∨ d = 3) ∧
      ((s.det d).state = .active ∨ (s.det d).state = .latched)) ∧ ((t.det d).state ≠ .latched → (t.det d).state = .clear)) ∧
    t.cc.armed = true ∧ t.cc.refreshDone = false ∧ t.cc.restriction = ⟨false, t.actionOf 4, t.actionOf 5⟩ ∧
    (t.sc.source = s.sc.source → t.cc.boostRemaining = none ∧ t.cc.taperExit = 0 ∧
      t.cc.mode = (if t.actionOf 4 = true ∨ t.actionOf 5 = true then .restricted else .float)) ∧
    (s.cc.mode ≠ .float → PendingAll .chargeMode t) ∧
    t.rc.swap = none ∧ t.rc.rotation = s.cfg .rotateH * 60 ∧ t.rc.shut = (t.actionOf 3 || s.rc.shut && !s.actionOf 3) ∧
    t.sc.inhibit = t.actionOf 20 ∧ t.sc.lockOut = false ∧
    (∀ k : Slot, (t.mod k).runMinutes = (s.mod k).runMinutes ∧ (t.mod k).fault = (s.mod k).fault ∧ (t.mod k).timeIn = 0 ∧
      ((s.mod k).service = .held ∨ (s.mod k).service = .retired ∨ (s.mod k).service = .lost ∨ (s.mod k).service = .absent →
        (t.mod k).service = (s.mod k).service ∧ (t.mod k).holdOrigin = (s.mod k).holdOrigin ∧
          (t.mod k).retireCause = (s.mod k).retireCause) ∧
      (t.sc.source = s.sc.source → t.actionOf 3 = false → t.actionOf 13 = false → t.actionOf 14 = false →
        ((s.mod k).service = .running → (s.sc.source = .generator → s.onCount ≤ s.cfg .genCap) → (t.mod k).service = .running) ∧
        ((s.mod k).service = .starting → (t.mod k).service = .standby ∨ (t.mod k).service = .starting) ∧
        ((s.mod k).service = .stopping ∨ (s.mod k).service = .resting → (t.mod k).service = (s.mod k).service))) ∧
    t.rqu.schedule = s.rqu.schedule ∧ t.rqu.fuel = s.rqu.fuel ∧ t.rqu.residue = s.rqu.residue ∧
    t.rqu.reconcileCount = s.rqu.reconcileCount ∧ t.rqu.reconcileDue = s.rqu.reconcileDue ∧ t.rqu.lastReading = s.rqu.lastReading ∧
    (∀ x ∈ t.rqu.reqs, x.isServed = true ↔ t.sc.seq.state = .onLoad ∧ x.serviceable = true) ∧
    t.rqu.outage = (if t.sc.source = .none ∧ s.cfg .outageDelayMin ≠ 0 then some (s.cfg .outageDelayMin * 60) else none) ∧
    (t.sc.source = s.sc.source → t.sc.source ≠ .none ∨ s.cfg .outageDelayMin ≠ 0 →
      t.rqu.reqs.map (fun x => { x with isServed := false, serviceable := false }) =
        s.rqu.reqs.map fun x => { x with isServed := false, serviceable := false })
end

