-- ==== Sys2Proof/Laws/State.lean ====
section
/-! SUPPORT. One lemma for each field under each named update of State, all true by unfolding. -/

namespace Sys2Proof.Machine

@[simp] theorem State.withMu_mu (s : State) (x : Mu) : (s.withMu x).mu = x := rfl
@[simp] theorem State.withMu_au (s : State) (x : Mu) : (s.withMu x).au = s.au := rfl
@[simp] theorem State.withMu_cc (s : State) (x : Mu) : (s.withMu x).cc = s.cc := rfl
@[simp] theorem State.withMu_sbc (s : State) (x : Mu) : (s.withMu x).sbc = s.sbc := rfl
@[simp] theorem State.withMu_rc (s : State) (x : Mu) : (s.withMu x).rc = s.rc := rfl
@[simp] theorem State.withMu_sc (s : State) (x : Mu) : (s.withMu x).sc = s.sc := rfl
@[simp] theorem State.withMu_rqu (s : State) (x : Mu) : (s.withMu x).rqu = s.rqu := rfl
@[simp] theorem State.withMu_du (s : State) (x : Mu) : (s.withMu x).du = s.du := rfl
@[simp] theorem State.withMu_shc (s : State) (x : Mu) : (s.withMu x).shc = s.shc := rfl
@[simp] theorem State.withMu_pc (s : State) (x : Mu) : (s.withMu x).pc = s.pc := rfl
@[simp] theorem State.withMu_ss (s : State) (x : Mu) : (s.withMu x).ss = s.ss := rfl
@[simp] theorem State.withMu_clk (s : State) (x : Mu) : (s.withMu x).clk = s.clk := rfl
@[simp] theorem State.withMu_startStep (s : State) (x : Mu) : (s.withMu x).startStep = s.startStep := rfl
@[simp] theorem State.withMu_freeDraws (s : State) (x : Mu) : (s.withMu x).freeDraws = s.freeDraws := rfl
@[simp] theorem State.withMu_pending (s : State) (x : Mu) : (s.withMu x).pending = s.pending := rfl

@[simp] theorem State.withAu_mu (s : State) (x : Au) : (s.withAu x).mu = s.mu := rfl
@[simp] theorem State.withAu_au (s : State) (x : Au) : (s.withAu x).au = x := rfl
@[simp] theorem State.withAu_cc (s : State) (x : Au) : (s.withAu x).cc = s.cc := rfl
@[simp] theorem State.withAu_sbc (s : State) (x : Au) : (s.withAu x).sbc = s.sbc := rfl
@[simp] theorem State.withAu_rc (s : State) (x : Au) : (s.withAu x).rc = s.rc := rfl
@[simp] theorem State.withAu_sc (s : State) (x : Au) : (s.withAu x).sc = s.sc := rfl
@[simp] theorem State.withAu_rqu (s : State) (x : Au) : (s.withAu x).rqu = s.rqu := rfl
@[simp] theorem State.withAu_du (s : State) (x : Au) : (s.withAu x).du = s.du := rfl
@[simp] theorem State.withAu_shc (s : State) (x : Au) : (s.withAu x).shc = s.shc := rfl
@[simp] theorem State.withAu_pc (s : State) (x : Au) : (s.withAu x).pc = s.pc := rfl
@[simp] theorem State.withAu_ss (s : State) (x : Au) : (s.withAu x).ss = s.ss := rfl
@[simp] theorem State.withAu_clk (s : State) (x : Au) : (s.withAu x).clk = s.clk := rfl
@[simp] theorem State.withAu_startStep (s : State) (x : Au) : (s.withAu x).startStep = s.startStep := rfl
@[simp] theorem State.withAu_freeDraws (s : State) (x : Au) : (s.withAu x).freeDraws = s.freeDraws := rfl
@[simp] theorem State.withAu_pending (s : State) (x : Au) : (s.withAu x).pending = s.pending := rfl

@[simp] theorem State.withCc_mu (s : State) (x : Cc) : (s.withCc x).mu = s.mu := rfl
@[simp] theorem State.withCc_au (s : State) (x : Cc) : (s.withCc x).au = s.au := rfl
@[simp] theorem State.withCc_cc (s : State) (x : Cc) : (s.withCc x).cc = x := rfl
@[simp] theorem State.withCc_sbc (s : State) (x : Cc) : (s.withCc x).sbc = s.sbc := rfl
@[simp] theorem State.withCc_rc (s : State) (x : Cc) : (s.withCc x).rc = s.rc := rfl
@[simp] theorem State.withCc_sc (s : State) (x : Cc) : (s.withCc x).sc = s.sc := rfl
@[simp] theorem State.withCc_rqu (s : State) (x : Cc) : (s.withCc x).rqu = s.rqu := rfl
@[simp] theorem State.withCc_du (s : State) (x : Cc) : (s.withCc x).du = s.du := rfl
@[simp] theorem State.withCc_shc (s : State) (x : Cc) : (s.withCc x).shc = s.shc := rfl
@[simp] theorem State.withCc_pc (s : State) (x : Cc) : (s.withCc x).pc = s.pc := rfl
@[simp] theorem State.withCc_ss (s : State) (x : Cc) : (s.withCc x).ss = s.ss := rfl
@[simp] theorem State.withCc_clk (s : State) (x : Cc) : (s.withCc x).clk = s.clk := rfl
@[simp] theorem State.withCc_startStep (s : State) (x : Cc) : (s.withCc x).startStep = s.startStep := rfl
@[simp] theorem State.withCc_freeDraws (s : State) (x : Cc) : (s.withCc x).freeDraws = s.freeDraws := rfl
@[simp] theorem State.withCc_pending (s : State) (x : Cc) : (s.withCc x).pending = s.pending := rfl

@[simp] theorem State.withSbc_mu (s : State) (x : Sbc) : (s.withSbc x).mu = s.mu := rfl
@[simp] theorem State.withSbc_au (s : State) (x : Sbc) : (s.withSbc x).au = s.au := rfl
@[simp] theorem State.withSbc_cc (s : State) (x : Sbc) : (s.withSbc x).cc = s.cc := rfl
@[simp] theorem State.withSbc_sbc (s : State) (x : Sbc) : (s.withSbc x).sbc = x := rfl
@[simp] theorem State.withSbc_rc (s : State) (x : Sbc) : (s.withSbc x).rc = s.rc := rfl
@[simp] theorem State.withSbc_sc (s : State) (x : Sbc) : (s.withSbc x).sc = s.sc := rfl
@[simp] theorem State.withSbc_rqu (s : State) (x : Sbc) : (s.withSbc x).rqu = s.rqu := rfl
@[simp] theorem State.withSbc_du (s : State) (x : Sbc) : (s.withSbc x).du = s.du := rfl
@[simp] theorem State.withSbc_shc (s : State) (x : Sbc) : (s.withSbc x).shc = s.shc := rfl
@[simp] theorem State.withSbc_pc (s : State) (x : Sbc) : (s.withSbc x).pc = s.pc := rfl
@[simp] theorem State.withSbc_ss (s : State) (x : Sbc) : (s.withSbc x).ss = s.ss := rfl
@[simp] theorem State.withSbc_clk (s : State) (x : Sbc) : (s.withSbc x).clk = s.clk := rfl
@[simp] theorem State.withSbc_startStep (s : State) (x : Sbc) : (s.withSbc x).startStep = s.startStep := rfl
@[simp] theorem State.withSbc_freeDraws (s : State) (x : Sbc) : (s.withSbc x).freeDraws = s.freeDraws := rfl
@[simp] theorem State.withSbc_pending (s : State) (x : Sbc) : (s.withSbc x).pending = s.pending := rfl

@[simp] theorem State.withRc_mu (s : State) (x : Rc) : (s.withRc x).mu = s.mu := rfl
@[simp] theorem State.withRc_au (s : State) (x : Rc) : (s.withRc x).au = s.au := rfl
@[simp] theorem State.withRc_cc (s : State) (x : Rc) : (s.withRc x).cc = s.cc := rfl
@[simp] theorem State.withRc_sbc (s : State) (x : Rc) : (s.withRc x).sbc = s.sbc := rfl
@[simp] theorem State.withRc_rc (s : State) (x : Rc) : (s.withRc x).rc = x := rfl
@[simp] theorem State.withRc_sc (s : State) (x : Rc) : (s.withRc x).sc = s.sc := rfl
@[simp] theorem State.withRc_rqu (s : State) (x : Rc) : (s.withRc x).rqu = s.rqu := rfl
@[simp] theorem State.withRc_du (s : State) (x : Rc) : (s.withRc x).du = s.du := rfl
@[simp] theorem State.withRc_shc (s : State) (x : Rc) : (s.withRc x).shc = s.shc := rfl
@[simp] theorem State.withRc_pc (s : State) (x : Rc) : (s.withRc x).pc = s.pc := rfl
@[simp] theorem State.withRc_ss (s : State) (x : Rc) : (s.withRc x).ss = s.ss := rfl
@[simp] theorem State.withRc_clk (s : State) (x : Rc) : (s.withRc x).clk = s.clk := rfl
@[simp] theorem State.withRc_startStep (s : State) (x : Rc) : (s.withRc x).startStep = s.startStep := rfl
@[simp] theorem State.withRc_freeDraws (s : State) (x : Rc) : (s.withRc x).freeDraws = s.freeDraws := rfl
@[simp] theorem State.withRc_pending (s : State) (x : Rc) : (s.withRc x).pending = s.pending := rfl

@[simp] theorem State.withSc_mu (s : State) (x : Sc) : (s.withSc x).mu = s.mu := rfl
@[simp] theorem State.withSc_au (s : State) (x : Sc) : (s.withSc x).au = s.au := rfl
@[simp] theorem State.withSc_cc (s : State) (x : Sc) : (s.withSc x).cc = s.cc := rfl
@[simp] theorem State.withSc_sbc (s : State) (x : Sc) : (s.withSc x).sbc = s.sbc := rfl
@[simp] theorem State.withSc_rc (s : State) (x : Sc) : (s.withSc x).rc = s.rc := rfl
@[simp] theorem State.withSc_sc (s : State) (x : Sc) : (s.withSc x).sc = x := rfl
@[simp] theorem State.withSc_rqu (s : State) (x : Sc) : (s.withSc x).rqu = s.rqu := rfl
@[simp] theorem State.withSc_du (s : State) (x : Sc) : (s.withSc x).du = s.du := rfl
@[simp] theorem State.withSc_shc (s : State) (x : Sc) : (s.withSc x).shc = s.shc := rfl
@[simp] theorem State.withSc_pc (s : State) (x : Sc) : (s.withSc x).pc = s.pc := rfl
@[simp] theorem State.withSc_ss (s : State) (x : Sc) : (s.withSc x).ss = s.ss := rfl
@[simp] theorem State.withSc_clk (s : State) (x : Sc) : (s.withSc x).clk = s.clk := rfl
@[simp] theorem State.withSc_startStep (s : State) (x : Sc) : (s.withSc x).startStep = s.startStep := rfl
@[simp] theorem State.withSc_freeDraws (s : State) (x : Sc) : (s.withSc x).freeDraws = s.freeDraws := rfl
@[simp] theorem State.withSc_pending (s : State) (x : Sc) : (s.withSc x).pending = s.pending := rfl

@[simp] theorem State.withRqu_mu (s : State) (x : Rqu) : (s.withRqu x).mu = s.mu := rfl
@[simp] theorem State.withRqu_au (s : State) (x : Rqu) : (s.withRqu x).au = s.au := rfl
@[simp] theorem State.withRqu_cc (s : State) (x : Rqu) : (s.withRqu x).cc = s.cc := rfl
@[simp] theorem State.withRqu_sbc (s : State) (x : Rqu) : (s.withRqu x).sbc = s.sbc := rfl
@[simp] theorem State.withRqu_rc (s : State) (x : Rqu) : (s.withRqu x).rc = s.rc := rfl
@[simp] theorem State.withRqu_sc (s : State) (x : Rqu) : (s.withRqu x).sc = s.sc := rfl
@[simp] theorem State.withRqu_rqu (s : State) (x : Rqu) : (s.withRqu x).rqu = x := rfl
@[simp] theorem State.withRqu_du (s : State) (x : Rqu) : (s.withRqu x).du = s.du := rfl
@[simp] theorem State.withRqu_shc (s : State) (x : Rqu) : (s.withRqu x).shc = s.shc := rfl
@[simp] theorem State.withRqu_pc (s : State) (x : Rqu) : (s.withRqu x).pc = s.pc := rfl
@[simp] theorem State.withRqu_ss (s : State) (x : Rqu) : (s.withRqu x).ss = s.ss := rfl
@[simp] theorem State.withRqu_clk (s : State) (x : Rqu) : (s.withRqu x).clk = s.clk := rfl
@[simp] theorem State.withRqu_startStep (s : State) (x : Rqu) : (s.withRqu x).startStep = s.startStep := rfl
@[simp] theorem State.withRqu_freeDraws (s : State) (x : Rqu) : (s.withRqu x).freeDraws = s.freeDraws := rfl
@[simp] theorem State.withRqu_pending (s : State) (x : Rqu) : (s.withRqu x).pending = s.pending := rfl

@[simp] theorem State.withDu_mu (s : State) (x : Du) : (s.withDu x).mu = s.mu := rfl
@[simp] theorem State.withDu_au (s : State) (x : Du) : (s.withDu x).au = s.au := rfl
@[simp] theorem State.withDu_cc (s : State) (x : Du) : (s.withDu x).cc = s.cc := rfl
@[simp] theorem State.withDu_sbc (s : State) (x : Du) : (s.withDu x).sbc = s.sbc := rfl
@[simp] theorem State.withDu_rc (s : State) (x : Du) : (s.withDu x).rc = s.rc := rfl
@[simp] theorem State.withDu_sc (s : State) (x : Du) : (s.withDu x).sc = s.sc := rfl
@[simp] theorem State.withDu_rqu (s : State) (x : Du) : (s.withDu x).rqu = s.rqu := rfl
@[simp] theorem State.withDu_du (s : State) (x : Du) : (s.withDu x).du = x := rfl
@[simp] theorem State.withDu_shc (s : State) (x : Du) : (s.withDu x).shc = s.shc := rfl
@[simp] theorem State.withDu_pc (s : State) (x : Du) : (s.withDu x).pc = s.pc := rfl
@[simp] theorem State.withDu_ss (s : State) (x : Du) : (s.withDu x).ss = s.ss := rfl
@[simp] theorem State.withDu_clk (s : State) (x : Du) : (s.withDu x).clk = s.clk := rfl
@[simp] theorem State.withDu_startStep (s : State) (x : Du) : (s.withDu x).startStep = s.startStep := rfl
@[simp] theorem State.withDu_freeDraws (s : State) (x : Du) : (s.withDu x).freeDraws = s.freeDraws := rfl
@[simp] theorem State.withDu_pending (s : State) (x : Du) : (s.withDu x).pending = s.pending := rfl

@[simp] theorem State.withShc_mu (s : State) (x : Shc) : (s.withShc x).mu = s.mu := rfl
@[simp] theorem State.withShc_au (s : State) (x : Shc) : (s.withShc x).au = s.au := rfl
@[simp] theorem State.withShc_cc (s : State) (x : Shc) : (s.withShc x).cc = s.cc := rfl
@[simp] theorem State.withShc_sbc (s : State) (x : Shc) : (s.withShc x).sbc = s.sbc := rfl
@[simp] theorem State.withShc_rc (s : State) (x : Shc) : (s.withShc x).rc = s.rc := rfl
@[simp] theorem State.withShc_sc (s : State) (x : Shc) : (s.withShc x).sc = s.sc := rfl
@[simp] theorem State.withShc_rqu (s : State) (x : Shc) : (s.withShc x).rqu = s.rqu := rfl
@[simp] theorem State.withShc_du (s : State) (x : Shc) : (s.withShc x).du = s.du := rfl
@[simp] theorem State.withShc_shc (s : State) (x : Shc) : (s.withShc x).shc = x := rfl
@[simp] theorem State.withShc_pc (s : State) (x : Shc) : (s.withShc x).pc = s.pc := rfl
@[simp] theorem State.withShc_ss (s : State) (x : Shc) : (s.withShc x).ss = s.ss := rfl
@[simp] theorem State.withShc_clk (s : State) (x : Shc) : (s.withShc x).clk = s.clk := rfl
@[simp] theorem State.withShc_startStep (s : State) (x : Shc) : (s.withShc x).startStep = s.startStep := rfl
@[simp] theorem State.withShc_freeDraws (s : State) (x : Shc) : (s.withShc x).freeDraws = s.freeDraws := rfl
@[simp] theorem State.withShc_pending (s : State) (x : Shc) : (s.withShc x).pending = s.pending := rfl

@[simp] theorem State.withPc_mu (s : State) (x : Pc) : (s.withPc x).mu = s.mu := rfl
@[simp] theorem State.withPc_au (s : State) (x : Pc) : (s.withPc x).au = s.au := rfl
@[simp] theorem State.withPc_cc (s : State) (x : Pc) : (s.withPc x).cc = s.cc := rfl
@[simp] theorem State.withPc_sbc (s : State) (x : Pc) : (s.withPc x).sbc = s.sbc := rfl
@[simp] theorem State.withPc_rc (s : State) (x : Pc) : (s.withPc x).rc = s.rc := rfl
@[simp] theorem State.withPc_sc (s : State) (x : Pc) : (s.withPc x).sc = s.sc := rfl
@[simp] theorem State.withPc_rqu (s : State) (x : Pc) : (s.withPc x).rqu = s.rqu := rfl
@[simp] theorem State.withPc_du (s : State) (x : Pc) : (s.withPc x).du = s.du := rfl
@[simp] theorem State.withPc_shc (s : State) (x : Pc) : (s.withPc x).shc = s.shc := rfl
@[simp] theorem State.withPc_pc (s : State) (x : Pc) : (s.withPc x).pc = x := rfl
@[simp] theorem State.withPc_ss (s : State) (x : Pc) : (s.withPc x).ss = s.ss := rfl
@[simp] theorem State.withPc_clk (s : State) (x : Pc) : (s.withPc x).clk = s.clk := rfl
@[simp] theorem State.withPc_startStep (s : State) (x : Pc) : (s.withPc x).startStep = s.startStep := rfl
@[simp] theorem State.withPc_freeDraws (s : State) (x : Pc) : (s.withPc x).freeDraws = s.freeDraws := rfl
@[simp] theorem State.withPc_pending (s : State) (x : Pc) : (s.withPc x).pending = s.pending := rfl

@[simp] theorem State.withSs_mu (s : State) (x : Ss) : (s.withSs x).mu = s.mu := rfl
@[simp] theorem State.withSs_au (s : State) (x : Ss) : (s.withSs x).au = s.au := rfl
@[simp] theorem State.withSs_cc (s : State) (x : Ss) : (s.withSs x).cc = s.cc := rfl
@[simp] theorem State.withSs_sbc (s : State) (x : Ss) : (s.withSs x).sbc = s.sbc := rfl
@[simp] theorem State.withSs_rc (s : State) (x : Ss) : (s.withSs x).rc = s.rc := rfl
@[simp] theorem State.withSs_sc (s : State) (x : Ss) : (s.withSs x).sc = s.sc := rfl
@[simp] theorem State.withSs_rqu (s : State) (x : Ss) : (s.withSs x).rqu = s.rqu := rfl
@[simp] theorem State.withSs_du (s : State) (x : Ss) : (s.withSs x).du = s.du := rfl
@[simp] theorem State.withSs_shc (s : State) (x : Ss) : (s.withSs x).shc = s.shc := rfl
@[simp] theorem State.withSs_pc (s : State) (x : Ss) : (s.withSs x).pc = s.pc := rfl
@[simp] theorem State.withSs_ss (s : State) (x : Ss) : (s.withSs x).ss = x := rfl
@[simp] theorem State.withSs_clk (s : State) (x : Ss) : (s.withSs x).clk = s.clk := rfl
@[simp] theorem State.withSs_startStep (s : State) (x : Ss) : (s.withSs x).startStep = s.startStep := rfl
@[simp] theorem State.withSs_freeDraws (s : State) (x : Ss) : (s.withSs x).freeDraws = s.freeDraws := rfl
@[simp] theorem State.withSs_pending (s : State) (x : Ss) : (s.withSs x).pending = s.pending := rfl

@[simp] theorem State.withClk_mu (s : State) (x : Clk) : (s.withClk x).mu = s.mu := rfl
@[simp] theorem State.withClk_au (s : State) (x : Clk) : (s.withClk x).au = s.au := rfl
@[simp] theorem State.withClk_cc (s : State) (x : Clk) : (s.withClk x).cc = s.cc := rfl
@[simp] theorem State.withClk_sbc (s : State) (x : Clk) : (s.withClk x).sbc = s.sbc := rfl
@[simp] theorem State.withClk_rc (s : State) (x : Clk) : (s.withClk x).rc = s.rc := rfl
@[simp] theorem State.withClk_sc (s : State) (x : Clk) : (s.withClk x).sc = s.sc := rfl
@[simp] theorem State.withClk_rqu (s : State) (x : Clk) : (s.withClk x).rqu = s.rqu := rfl
@[simp] theorem State.withClk_du (s : State) (x : Clk) : (s.withClk x).du = s.du := rfl
@[simp] theorem State.withClk_shc (s : State) (x : Clk) : (s.withClk x).shc = s.shc := rfl
@[simp] theorem State.withClk_pc (s : State) (x : Clk) : (s.withClk x).pc = s.pc := rfl
@[simp] theorem State.withClk_ss (s : State) (x : Clk) : (s.withClk x).ss = s.ss := rfl
@[simp] theorem State.withClk_clk (s : State) (x : Clk) : (s.withClk x).clk = x := rfl
@[simp] theorem State.withClk_startStep (s : State) (x : Clk) : (s.withClk x).startStep = s.startStep := rfl
@[simp] theorem State.withClk_freeDraws (s : State) (x : Clk) : (s.withClk x).freeDraws = s.freeDraws := rfl
@[simp] theorem State.withClk_pending (s : State) (x : Clk) : (s.withClk x).pending = s.pending := rfl

@[simp] theorem State.withStartStep_mu (s : State) (x : StartStep) : (s.withStartStep x).mu = s.mu := rfl
@[simp] theorem State.withStartStep_au (s : State) (x : StartStep) : (s.withStartStep x).au = s.au := rfl
@[simp] theorem State.withStartStep_cc (s : State) (x : StartStep) : (s.withStartStep x).cc = s.cc := rfl
@[simp] theorem State.withStartStep_sbc (s : State) (x : StartStep) : (s.withStartStep x).sbc = s.sbc := rfl
@[simp] theorem State.withStartStep_rc (s : State) (x : StartStep) : (s.withStartStep x).rc = s.rc := rfl
@[simp] theorem State.withStartStep_sc (s : State) (x : StartStep) : (s.withStartStep x).sc = s.sc := rfl
@[simp] theorem State.withStartStep_rqu (s : State) (x : StartStep) : (s.withStartStep x).rqu = s.rqu := rfl
@[simp] theorem State.withStartStep_du (s : State) (x : StartStep) : (s.withStartStep x).du = s.du := rfl
@[simp] theorem State.withStartStep_shc (s : State) (x : StartStep) : (s.withStartStep x).shc = s.shc := rfl
@[simp] theorem State.withStartStep_pc (s : State) (x : StartStep) : (s.withStartStep x).pc = s.pc := rfl
@[simp] theorem State.withStartStep_ss (s : State) (x : StartStep) : (s.withStartStep x).ss = s.ss := rfl
@[simp] theorem State.withStartStep_clk (s : State) (x : StartStep) : (s.withStartStep x).clk = s.clk := rfl
@[simp] theorem State.withStartStep_startStep (s : State) (x : StartStep) : (s.withStartStep x).startStep = x := rfl
@[simp] theorem State.withStartStep_freeDraws (s : State) (x : StartStep) : (s.withStartStep x).freeDraws = s.freeDraws := rfl
@[simp] theorem State.withStartStep_pending (s : State) (x : StartStep) : (s.withStartStep x).pending = s.pending := rfl

@[simp] theorem State.withFreeDraws_mu (s : State) (x : Nat) : (s.withFreeDraws x).mu = s.mu := rfl
@[simp] theorem State.withFreeDraws_au (s : State) (x : Nat) : (s.withFreeDraws x).au = s.au := rfl
@[simp] theorem State.withFreeDraws_cc (s : State) (x : Nat) : (s.withFreeDraws x).cc = s.cc := rfl
@[simp] theorem State.withFreeDraws_sbc (s : State) (x : Nat) : (s.withFreeDraws x).sbc = s.sbc := rfl
@[simp] theorem State.withFreeDraws_rc (s : State) (x : Nat) : (s.withFreeDraws x).rc = s.rc := rfl
@[simp] theorem State.withFreeDraws_sc (s : State) (x : Nat) : (s.withFreeDraws x).sc = s.sc := rfl
@[simp] theorem State.withFreeDraws_rqu (s : State) (x : Nat) : (s.withFreeDraws x).rqu = s.rqu := rfl
@[simp] theorem State.withFreeDraws_du (s : State) (x : Nat) : (s.withFreeDraws x).du = s.du := rfl
@[simp] theorem State.withFreeDraws_shc (s : State) (x : Nat) : (s.withFreeDraws x).shc = s.shc := rfl
@[simp] theorem State.withFreeDraws_pc (s : State) (x : Nat) : (s.withFreeDraws x).pc = s.pc := rfl
@[simp] theorem State.withFreeDraws_ss (s : State) (x : Nat) : (s.withFreeDraws x).ss = s.ss := rfl
@[simp] theorem State.withFreeDraws_clk (s : State) (x : Nat) : (s.withFreeDraws x).clk = s.clk := rfl
@[simp] theorem State.withFreeDraws_startStep (s : State) (x : Nat) : (s.withFreeDraws x).startStep = s.startStep := rfl
@[simp] theorem State.withFreeDraws_freeDraws (s : State) (x : Nat) : (s.withFreeDraws x).freeDraws = x := rfl
@[simp] theorem State.withFreeDraws_pending (s : State) (x : Nat) : (s.withFreeDraws x).pending = s.pending := rfl

@[simp] theorem State.withPending_mu (s : State) (x : List Instr) : (s.withPending x).mu = s.mu := rfl
@[simp] theorem State.withPending_au (s : State) (x : List Instr) : (s.withPending x).au = s.au := rfl
@[simp] theorem State.withPending_cc (s : State) (x : List Instr) : (s.withPending x).cc = s.cc := rfl
@[simp] theorem State.withPending_sbc (s : State) (x : List Instr) : (s.withPending x).sbc = s.sbc := rfl
@[simp] theorem State.withPending_rc (s : State) (x : List Instr) : (s.withPending x).rc = s.rc := rfl
@[simp] theorem State.withPending_sc (s : State) (x : List Instr) : (s.withPending x).sc = s.sc := rfl
@[simp] theorem State.withPending_rqu (s : State) (x : List Instr) : (s.withPending x).rqu = s.rqu := rfl
@[simp] theorem State.withPending_du (s : State) (x : List Instr) : (s.withPending x).du = s.du := rfl
@[simp] theorem State.withPending_shc (s : State) (x : List Instr) : (s.withPending x).shc = s.shc := rfl
@[simp] theorem State.withPending_pc (s : State) (x : List Instr) : (s.withPending x).pc = s.pc := rfl
@[simp] theorem State.withPending_ss (s : State) (x : List Instr) : (s.withPending x).ss = s.ss := rfl
@[simp] theorem State.withPending_clk (s : State) (x : List Instr) : (s.withPending x).clk = s.clk := rfl
@[simp] theorem State.withPending_startStep (s : State) (x : List Instr) : (s.withPending x).startStep = s.startStep := rfl
@[simp] theorem State.withPending_freeDraws (s : State) (x : List Instr) : (s.withPending x).freeDraws = s.freeDraws := rfl
@[simp] theorem State.withPending_pending (s : State) (x : List Instr) : (s.withPending x).pending = x := rfl

end Sys2Proof.Machine
end

