-- ==== Sys2Proof/Laws/Ops.lean ====
section
/-! SUPPORT. What the shared reads and updates of records do: a record read after an update, ports and notices, tables. -/

namespace Sys2Proof.Machine

/-! ### Tables -/

@[simp] theorem vgen_get {α : Type} {n : Nat} (f : Fin n → α) (i : Fin n) : (vgen f)[i] = f i := by
  simp [vgen]

@[simp] theorem vmap_get {α β : Type} {n : Nat} (f : α → β) (v : Vector α n) (i : Fin n) : (vmap f v)[i] = f v[i] := by
  simp [vmap]

theorem vmod_get {α : Type} {n : Nat} (v : Vector α n) (i j : Fin n) (f : α → α) :
    (vmod v i f)[j] = if j = i then f v[i] else v[j] := by
  by_cases h : j = i
  · subst h; simp [vmod]
  · rw [if_neg h]
    exact Vector.getElem_set_ne _ _ fun e => h (Fin.ext e.symm)

/-! ### One record of a table read after an update -/

@[simp] theorem State.setMod_mod (s : State) (k : Slot) (m : Module) : (s.setMod k m).mod k = m := by
  simp [State.setMod, State.mod]

theorem State.setMod_mod_of_ne (s : State) {j k : Slot} (m : Module) (h : j ≠ k) : (s.setMod k m).mod j = s.mod j :=
  Vector.getElem_set_ne k.isLt j.isLt fun e => h (Fin.ext e.symm)

@[simp] theorem State.setLink_link (s : State) (k : Slot) (l : Link) : (s.setLink k l).link k = l := by
  simp [State.setLink, State.link]

theorem State.setLink_link_of_ne (s : State) {j k : Slot} (l : Link) (h : j ≠ k) : (s.setLink k l).link j = s.link j :=
  Vector.getElem_set_ne k.isLt j.isLt fun e => h (Fin.ext e.symm)

@[simp] theorem State.setDet_det (s : State) (d : Fin 32) (e : Det) : (s.setDet d e).det d = e := by
  simp [State.setDet, State.det]

theorem State.setDet_det_of_ne (s : State) {c d : Fin 32} (e : Det) (h : c ≠ d) : (s.setDet d e).det c = s.det c :=
  Vector.getElem_set_ne d.isLt c.isLt fun e => h (Fin.ext e.symm)

@[simp] theorem State.setStage_stage (s : State) (k : Fin 4) (x : Stage) : (s.setStage k x).stage k = x := by
  simp [State.setStage, State.stage]

theorem State.setStage_stage_of_ne (s : State) {j k : Fin 4} (x : Stage) (h : j ≠ k) : (s.setStage k x).stage j = s.stage j :=
  Vector.getElem_set_ne k.isLt j.isLt fun e => h (Fin.ext e.symm)

/-! ### Ports and notices (R158, R163) -/

@[simp] theorem PerPort.get_map {α : Type} (v : PerPort α) (f : α → α) (q : Port) : (v.map f).get q = f (v.get q) := by
  cases q <;> rfl

theorem PerPort.get_update {α : Type} (v : PerPort α) (f : α → α) (p q : Port) :
    (v.update q f).get p = if p = q then f (v.get q) else v.get p := by
  cases p <;> cases q <;> rfl

@[simp] theorem State.onPort_port (s : State) (q : Port) (f : PortRec → PortRec) : (s.onPort q f).port q = f (s.port q) := by
  simp [State.onPort, State.port, PerPort.get_update]

theorem State.onPort_port_of_ne (s : State) {p q : Port} (f : PortRec → PortRec) (h : p ≠ q) : (s.onPort q f).port p = s.port p := by
  simp [State.onPort, State.port, PerPort.get_update, h]

@[simp] theorem raiseAll_port (n : Notice) (s : State) (q : Port) : (raiseAll n s).port q = (s.port q).raise n := by
  simp [raiseAll, State.port]

@[simp] theorem raiseTo_port (n : Notice) (s : State) (q : Port) : (raiseTo q n s).port q = (s.port q).raise n := by
  simp [raiseTo]

/-- A notice touches the port records alone. -/
theorem raiseAll_frame (n : Notice) (s : State) : raiseAll n s = { s with pc := (raiseAll n s).pc } := rfl

/-- A notice joins the pending set and nothing leaves it. -/
@[simp] theorem PortRec.raise_pendingSet (n : Notice) (p : PortRec) : (p.raise n).pendingSet = p.pendingSet ||| n.bit := rfl

@[simp] theorem PortRec.raise_mask (n : Notice) (p : PortRec) : (p.raise n).mask = p.mask := rfl

/-- After the attention line is brought up to date it is active exactly while an unmasked kind is pending. -/
theorem PortRec.attend_attention (p : PortRec) :
    p.attend.attention = true ↔ p.attend.pendingSet &&& ~~~p.attend.mask ≠ 0#13 := by
  simp [PortRec.attend]

/-! ### Clamping -/

/-- A clamped number lies in its range. -/
theorem clampTo_mem (lo hi : Nat) (v : Int) (h : lo ≤ hi) : lo ≤ clampTo lo hi v ∧ clampTo lo hi v ≤ hi := by
  unfold clampTo; omega

/-- A number in the range is left as it is. -/
theorem clampTo_of_mem (lo hi n : Nat) (h : lo ≤ n) (h' : n ≤ hi) : clampTo lo hi n = n := by
  unfold clampTo; simp; omega

/-- A count that stops at its top never passes it. -/
theorem bump_le (top n : Nat) : bump top n ≤ top := by unfold bump; omega

end Sys2Proof.Machine
end

