-- ==== Sys2Proof/Laws/Frames.lean ====
section
/-! SUPPORT. What the shared operations over several units leave unchanged, and what taking a new request comes to. -/

namespace Sys2Proof.Machine

/-! ### Operations that touch the Rotation Controller and the port records alone -/

/-- `t` is `s` but for the RC and the port records. -/
def OnlyRc (s t : State) : Prop := t = { s with rc := t.rc, pc := t.pc }

theorem OnlyRc.refl (s : State) : OnlyRc s s := rfl

theorem OnlyRc.trans {a b c : State} (h : OnlyRc a b) (h' : OnlyRc b c) : OnlyRc a c := by
  unfold OnlyRc at *; rw [h'] ; rw [h]

theorem onlyRc_withRc (s : State) (x : Rc) : OnlyRc s (s.withRc x) := rfl

theorem onlyRc_raiseAll (n : Notice) (s : State) : OnlyRc s (raiseAll n s) := rfl

theorem onlyRc_setMod (s : State) (k : Slot) (m : Module) : OnlyRc s (s.setMod k m) := rfl

/-- A change of service state touches the RC and the notices alone (R79). -/
theorem placeService_frame (k : Slot) (st : Service) (s : State) : OnlyRc s (placeService k st s) := by
  unfold placeService
  by_cases h : (s.mod k).service = st
  · simp only [h, if_true]; rfl
  · simp only [h, if_false]; split <;> rfl

theorem followSwap_frame (k : Slot) (old new : Service) (s : State) : OnlyRc s (followSwap k old new s) := by
  unfold followSwap
  split
  · rfl
  · dsimp only
    split
    · split
      · exact (onlyRc_withRc s _).trans (placeService_frame _ _ _)
      · rfl
    · split <;> rfl

/-- The same with what it does to a swap (R79, R96). -/
theorem setService_frame (k : Slot) (st : Service) (s : State) : OnlyRc s (setService k st s) := by
  unfold setService
  dsimp only
  split
  · rfl
  · exact (placeService_frame _ _ _).trans (followSwap_frame _ _ _ _)

theorem startModule_frame (timed : Bool) (k : Slot) (s : State) : OnlyRc s (startModule timed k s) := by
  unfold startModule
  dsimp only
  split
  · exact ((setService_frame k .starting s).trans (onlyRc_setMod _ _ _)).trans (onlyRc_withRc _ _)
  · exact (setService_frame k .starting s).trans (onlyRc_setMod _ _ _)

theorem startHead_frame (s : State) : OnlyRc s (startHead s) := by
  unfold startHead
  split
  · split
    · exact startModule_frame _ _ _
    · rfl
  · rfl

theorem relieveSkips_frame (s : State) : OnlyRc s (relieveSkips s) := by
  unfold relieveSkips
  split <;> rfl

theorem updateRemoval_frame (s : State) : OnlyRc s (updateRemoval s) := by
  unfold updateRemoval
  split <;> rfl

/-- A demand evaluation touches the RC and the notices alone (R81). -/
theorem demandEval_frame (s : State) : OnlyRc s (demandEval s) := by
  unfold demandEval
  split
  · exact (((((onlyRc_withRc s _ : OnlyRc s (formNeed s)).trans (relieveSkips_frame _)).trans
      (onlyRc_withRc _ _ : OnlyRc _ (updateQueue _))).trans (startHead_frame _)).trans (updateRemoval_frame _)).trans
      ((onlyRc_withRc _ _ : OnlyRc _ (placeValues _)).trans (relieveSkips_frame _))
  · rfl

/-- An action on every slot in turn touches no more than one of them may. -/
theorem forSlots_frame (f : Slot → State → State) (h : ∀ k x, OnlyRc x (f k x)) (s : State) : OnlyRc s (forSlots f s) := by
  unfold forSlots
  generalize List.finRange 12 = l
  induction l generalizing s with
  | nil => rfl
  | cons k rest ih => exact (h k s).trans (ih (f k s))

theorem stopAll_frame (s : State) : OnlyRc s (stopAll s) := by
  unfold stopAll
  refine ((onlyRc_withRc s _).trans (forSlots_frame _ (fun k x => ?_) _)).trans (onlyRc_withRc _ _)
  split
  · exact setService_frame _ _ _
  · rfl

theorem stopSurplusOne_frame (s : State) : OnlyRc s (stopSurplusOne s) := by
  unfold stopSurplusOne
  split
  · split
    · exact setService_frame _ _ _
    · rfl
  · rfl

theorem capTest_frame (s : State) : OnlyRc s (capTest s) := by
  unfold capTest
  split
  · generalize List.range 12 = l
    rename_i h
    clear h
    induction l generalizing s with
    | nil => rfl
    | cons _ rest ih => exact (stopSurplusOne_frame s).trans (ih (stopSurplusOne s))
  · rfl

/-- Shelf shut touches the RC and the notices alone (R79, R87). -/
theorem setShut_frame (on : Bool) (s : State) : OnlyRc s (setShut on s) := by
  unfold setShut
  split
  · rfl
  · dsimp only
    split
    · exact ((onlyRc_withRc s _).trans (stopAll_frame _)).trans (demandEval_frame _)
    · exact (onlyRc_withRc s _).trans (demandEval_frame _)

/-- A change of the source touches the RC and the notices alone where the RC takes it (R87, R96). -/
theorem rcSourceChange_frame (s : State) : OnlyRc s (rcSourceChange s) := by
  unfold rcSourceChange
  split
  · exact (stopAll_frame s).trans (demandEval_frame _)
  · exact (onlyRc_withRc s _).trans (demandEval_frame _)
  · dsimp only
    refine (OnlyRc.trans ?_ ((onlyRc_withRc _ _).trans (capTest_frame _))).trans (demandEval_frame _)
    split
    · split
      · exact setService_frame _ _ _
      · rfl
    · rfl

/-- A rotation event touches the RC and the notices alone (R95). -/
theorem rotationEvent_frame (s : State) : OnlyRc s (rotationEvent s) := by
  unfold rotationEvent
  dsimp only
  split
  · rfl
  · split
    · rfl
    · split
      · rfl
      · exact ((onlyRc_withRc s _).trans (startModule_frame _ _ _)).trans (demandEval_frame _)

/-! ### Operations that touch the charge, the shelf, the supply and the run requests -/

/-- `t` is `s` but for the CC, the RC, the SC, the RQU and the port records. -/
def OnlySupply (s t : State) : Prop := t = { s with cc := t.cc, rc := t.rc, sc := t.sc, rqu := t.rqu, pc := t.pc }

theorem OnlySupply.refl (s : State) : OnlySupply s s := rfl

theorem OnlySupply.trans {a b c : State} (h : OnlySupply a b) (h' : OnlySupply b c) : OnlySupply a c := by
  unfold OnlySupply at *; rw [h']; rw [h]

theorem OnlyRc.onlySupply {s t : State} (h : OnlyRc s t) : OnlySupply s t := by
  unfold OnlyRc at h; unfold OnlySupply; rw [h]

theorem onlySupply_withCc (s : State) (x : Cc) : OnlySupply s (s.withCc x) := rfl
theorem onlySupply_withRc (s : State) (x : Rc) : OnlySupply s (s.withRc x) := rfl
theorem onlySupply_withSc (s : State) (x : Sc) : OnlySupply s (s.withSc x) := rfl
theorem onlySupply_withRqu (s : State) (x : Rqu) : OnlySupply s (s.withRqu x) := rfl
theorem onlySupply_raiseAll (n : Notice) (s : State) : OnlySupply s (raiseAll n s) := rfl

/-- A change of mode (R43). -/
theorem setMode_frame (mode : ChargeMode) (boost : Option Nat) (s : State) : OnlySupply s (setMode mode boost s) := by
  unfold setMode
  split
  · rfl
  · refine OnlySupply.trans ?_ (demandEval_frame _).onlySupply
    exact ((onlySupply_withCc s _).trans (onlySupply_withCc _ _)).trans (onlySupply_raiseAll _ _)

theorem endRefresh_frame (s : State) : OnlySupply s (endRefresh s) := by
  unfold endRefresh
  split
  · exact setMode_frame _ _ _
  · rfl

/-- A change of the source where the CC takes it (R47). -/
theorem ccSourceChange_frame (s : State) : OnlySupply s (ccSourceChange s) := by
  unfold ccSourceChange
  split
  · exact (onlySupply_withCc s _).trans (endRefresh_frame _)
  · rfl
  · dsimp only
    split
    · exact (endRefresh_frame s).trans (setMode_frame _ _ _)
    · exact endRefresh_frame s

/-- Steps 3 to 5 of R124 touch the RQU alone. -/
theorem refreshRequests_frame (s : State) : refreshRequests s = { s with rqu := (refreshRequests s).rqu } := rfl

theorem createRecord_frame (reason : Reason) (o : Origin) (cls : ReqClass) (onLoad : Bool) (minutes : Option Nat) (s : State) :
    OnlySupply s (createRecord reason o cls onLoad minutes s) := by
  unfold createRecord
  dsimp only
  split <;> rfl

theorem refreshIfChanged_frame (a s t : State) (h : OnlySupply s t) : OnlySupply s (refreshIfChanged a t) := by
  unfold refreshIfChanged
  split
  · exact h
  · exact h.trans rfl

theorem createMainsFail_frame (s : State) : OnlySupply s (createMainsFail s) :=
  refreshIfChanged_frame s s _ (createRecord_frame _ _ _ _ _ s)

theorem completeMainsFail_frame (s : State) : OnlySupply s (completeMainsFail s) := refreshIfChanged_frame s s _ rfl

theorem startOutage_frame (s : State) : OnlySupply s (startOutage s) := by
  unfold startOutage
  split
  · exact (onlySupply_withRqu s _).trans (createMainsFail_frame _)
  · rfl

/-- A change of the source where the RQU takes it (R125). -/
theorem rquSourceChange_frame (s : State) : OnlySupply s (rquSourceChange s) := by
  unfold rquSourceChange
  split
  · exact startOutage_frame s
  · exact (onlySupply_withRqu s _ : OnlySupply s (cancelOutage s)).trans (completeMainsFail_frame _)
  · rfl

/-- The source formed afresh (R100). -/
theorem refreshSource_frame (s : State) : OnlySupply s (refreshSource s) := by
  unfold refreshSource
  split
  · rfl
  · refine OnlySupply.trans ?_ (rquSourceChange_frame _)
    refine OnlySupply.trans ?_ (rcSourceChange_frame _).onlySupply
    refine OnlySupply.trans ?_ (ccSourceChange_frame _)
    exact (onlySupply_withSc s _).trans (onlySupply_raiseAll _ _)

/-- A contactor commanded (R99, R100). -/
theorem commandContactor_frame (k : Contactor) (closed : Bool) (s : State) : OnlySupply s (commandContactor k closed s) := by
  unfold commandContactor
  dsimp only
  split
  · rfl
  · exact (onlySupply_withSc s _).trans (refreshSource_frame _)

theorem endBreak_frame (s : State) : OnlySupply s (endBreak s) := by
  unfold endBreak
  split
  · split
    · exact (onlySupply_withSc s _).trans (commandContactor_frame _ _ _)
    · rfl
  · rfl

/-- A time told changes nothing but the milliseconds since the evaluation. -/
theorem tellTime_frame (ms : Nat) (s : State) : OnlySupply s (tellTime ms s) := onlySupply_withSc s _

@[simp] theorem tellTime_sc (ms : Nat) (s : State) : (tellTime ms s).sc = { s.sc with sinceEval := max s.sc.sinceEval ms } := rfl

/-- A BREAK phase that may not end leaves the state as it is (R106). -/
theorem endBreak_of_not (s : State) (h : s.breakDone = false) : endBreak s = s := by
  unfold endBreak; rw [h]; rfl

theorem beginTransfer_frame (d : Direction) (s : State) : OnlySupply s (beginTransfer d s) :=
  ((onlySupply_withSc s _).trans (commandContactor_frame _ _ _)).trans (endBreak_frame _)

theorem dropGenerator_frame (s : State) : OnlySupply s (dropGenerator s) := by
  unfold dropGenerator
  refine OnlySupply.trans ?_ (commandContactor_frame _ _ _)
  split <;> rfl

theorem rquSeqTaken_frame (s : State) : OnlySupply s (rquSeqTaken s) := by
  unfold rquSeqTaken
  split <;> rfl

/-- The GC command at an entry to a state (R108). -/
theorem enterGc_frame (st : SeqState) (s : State) : OnlySupply s (enterGc st s) := by
  unfold enterGc
  split
  · rfl
  · exact commandContactor_frame _ _ _

/-- An entry to a sequence state (R108). -/
theorem enterSeq_frame (st : SeqState) (more : Seq → Seq) (s : State) : OnlySupply s (enterSeq st more s) :=
  (((enterGc_frame st s).trans (onlySupply_withSc _ _)).trans (onlySupply_raiseAll _ _)).trans (rquSeqTaken_frame _)

/-! ### What the source and the contactors become (R99, R100, R108) -/

theorem OnlyRc.sc {s t : State} (h : OnlyRc s t) : t.sc = s.sc := by unfold OnlyRc at h; rw [h]

@[simp] theorem demandEval_sc (s : State) : (demandEval s).sc = s.sc := (demandEval_frame s).sc

@[simp] theorem setMode_sc (mode : ChargeMode) (boost : Option Nat) (s : State) : (setMode mode boost s).sc = s.sc := by
  unfold setMode
  split
  · rfl
  · exact (demandEval_sc _).trans rfl

@[simp] theorem endRefresh_sc (s : State) : (endRefresh s).sc = s.sc := by
  unfold endRefresh
  split <;> simp

@[simp] theorem ccSourceChange_sc (s : State) : (ccSourceChange s).sc = s.sc := by
  unfold ccSourceChange
  split
  · exact (endRefresh_sc _).trans rfl
  · rfl
  · dsimp only
    split <;> simp

@[simp] theorem rcSourceChange_sc (s : State) : (rcSourceChange s).sc = s.sc := (rcSourceChange_frame s).sc

theorem refreshIfChanged_sc (a t : State) : (refreshIfChanged a t).sc = t.sc := by
  unfold refreshIfChanged
  split <;> rfl

theorem createRecord_sc (reason : Reason) (o : Origin) (cls : ReqClass) (onLoad : Bool) (minutes : Option Nat) (s : State) :
    (createRecord reason o cls onLoad minutes s).sc = s.sc := by
  unfold createRecord
  dsimp only
  split <;> rfl

@[simp] theorem rquSourceChange_sc (s : State) : (rquSourceChange s).sc = s.sc := by
  unfold rquSourceChange startOutage createMainsFail completeMainsFail
  split
  · split
    · rw [refreshIfChanged_sc, createRecord_sc]; rfl
    · rfl
  · rw [refreshIfChanged_sc]; rfl
  · rfl

/-- The source formed afresh changes the source alone of the supply record (R100). -/
theorem refreshSource_sc (s : State) : (refreshSource s).sc = { s.sc with source := s.formedSource } := by
  unfold refreshSource
  split
  · next h => rw [h]
  · rw [rquSourceChange_sc, rcSourceChange_sc, ccSourceChange_sc]; rfl

/-- A contactor stands as it was commanded (R99). -/
theorem commandContactor_closed (k : Contactor) (closed : Bool) (s : State) :
    ((commandContactor k closed s).sc.contactor k).closed = closed := by
  unfold commandContactor
  dsimp only
  split
  · assumption
  · rw [refreshSource_sc]
    cases k <;> rfl

/-- The entry to any state but ON-LOAD leaves GC commanded OPEN (R108). -/
theorem enterGc_opens (st : SeqState) (s : State) (h : st ≠ .onLoad) : (enterGc st s).sc.gc.closed = false := by
  unfold enterGc
  rw [if_neg h]
  exact commandContactor_closed .gc false s

/-- ON-LOAD is entered with GC as the transfer left it (R106, R108). -/
theorem enterGc_onLoad (s : State) : enterGc .onLoad s = s := rfl

@[simp] theorem rquSeqTaken_sc (s : State) : (rquSeqTaken s).sc = s.sc := by
  unfold rquSeqTaken
  split <;> rfl

/-- The supply record at an entry to a sequence state (R108). -/
theorem enterSeq_sc (st : SeqState) (more : Seq → Seq) (s : State) :
    (enterSeq st more s).sc = { (enterGc st s).sc with seq := more ((enterGc st s).sc.seq.enter st (enterGc st s).running) } :=
  rquSeqTaken_sc _

/-! ### The supply evaluation (R101) -/

theorem rquMainsReturn_frame (s : State) : OnlySupply s (rquMainsReturn s) := by
  unfold rquMainsReturn
  split <;> first | exact completeMainsFail_frame _ | rfl

theorem mainsStep_frame (s : State) : OnlySupply s (mainsStep s) := by
  unfold mainsStep
  split
  · rfl
  · exact (((onlySupply_withSc s _).trans (commandContactor_frame _ _ _)).trans (refreshSource_frame _)).trans (onlySupply_raiseAll _ _)
  · exact ((onlySupply_withSc s _).trans (onlySupply_raiseAll _ _)).trans (rquMainsReturn_frame _)

theorem startUpStep_frame (s : State) : OnlySupply s (startUpStep s) := by
  unfold startUpStep
  split
  · rfl
  · split <;> rfl

/-- Steps 1 to 5 (R101). -/
theorem supplyFront_frame (s : State) : OnlySupply s (supplyFront s) := by
  unfold supplyFront
  refine OnlySupply.trans ?_ (onlySupply_withSc _ _)
  refine OnlySupply.trans ?_ (refreshSource_frame _)
  refine ((((onlySupply_withSc s _).trans (mainsStep_frame _)).trans (startUpStep_frame _)).trans (onlySupply_withSc _ _)).trans
    (onlySupply_withSc _ _)

theorem foundStopped_frame (s : State) : OnlySupply s (foundStopped s) := by
  unfold foundStopped
  dsimp only
  split <;> rfl

theorem seqTimers_frame (s : State) : OnlySupply s (seqTimers s) := by
  unfold seqTimers
  refine OnlySupply.trans (b := if stopPulseEnds s then stopPulseEndStep (seqTick s) else seqTick s) ?_ ?_
  · split
    · refine (onlySupply_withSc s _ : OnlySupply s (seqTick s)).trans ?_
      unfold stopPulseEndStep
      split <;> rfl
    · rfl
  · exact foundStopped_frame _

theorem qualifyStep_frame (s : State) : OnlySupply s (qualifyStep s) := by
  unfold qualifyStep
  dsimp only
  split
  · rfl
  · split
    · exact (onlySupply_withSc s _).trans (beginTransfer_frame _ _)
    · split
      · exact (onlySupply_withSc s _).trans (enterSeq_frame _ _ _)
      · rfl

theorem unloadedStep_frame (s : State) : OnlySupply s (unloadedStep s) := by
  unfold unloadedStep
  dsimp only
  have h : OnlySupply s (if s.sc.transferring .toGenerator = true then dropGenerator s else s) := by
    split
    · exact dropGenerator_frame s
    · rfl
  refine h.trans ?_
  generalize (if s.sc.transferring .toGenerator = true then dropGenerator s else s) = t
  split
  · rfl
  · split
    · exact enterSeq_frame _ _ _
    · rfl

theorem warmedStep_frame (s : State) : OnlySupply s (warmedStep s) := by
  unfold warmedStep
  split
  · exact qualifyStep_frame s
  · exact unloadedStep_frame s

theorem warmOutStep_frame (s : State) : OnlySupply s (warmOutStep s) := (onlySupply_withSc s _).trans (warmedStep_frame _)

theorem lockOutSet_frame (s : State) : OnlySupply s (lockOutSet s) := (dropGenerator_frame s).trans (enterSeq_frame _ _ _)

theorem stallSet_frame (s : State) : OnlySupply s (stallSet s) := by
  unfold stallSet
  dsimp only
  split
  · exact ((dropGenerator_frame s).trans (onlySupply_withSc _ _)).trans (enterSeq_frame _ _ _)
  · split <;> exact ((dropGenerator_frame s).trans (onlySupply_withSc _ _)).trans (enterSeq_frame _ _ _)

theorem unloadStep_frame (s : State) : OnlySupply s (unloadStep s) := by
  unfold unloadStep
  dsimp only
  split
  · split
    · rfl
    · refine (beginTransfer_frame .toMains s).trans ?_
      split <;> exact enterSeq_frame _ _ _
  · refine (commandContactor_frame .gc false s).trans ?_
    split <;> exact enterSeq_frame _ _ _

/-- Any move of the sequence (R110 to R119). -/
theorem seqAct_frame (s : State) : OnlySupply s (seqAct s) := by
  unfold seqAct
  split
  · split <;> rfl
  · exact lockOutSet_frame s
  · exact stallSet_frame s
  · exact enterSeq_frame _ _ _
  · exact enterSeq_frame _ _ _
  · exact enterSeq_frame _ _ _
  · exact enterSeq_frame _ _ _
  · exact enterSeq_frame _ _ _
  · split <;> exact enterSeq_frame _ _ _
  · exact enterSeq_frame _ _ _
  · exact warmOutStep_frame s
  · exact warmedStep_frame s
  · exact unloadStep_frame s
  · exact (enterSeq_frame _ _ _).trans (warmedStep_frame _)
  · exact (enterSeq_frame _ _ _).trans (unloadedStep_frame _)
  · exact enterSeq_frame _ _ _
  · exact (onlySupply_withSc s _).trans (enterSeq_frame _ _ _)
  · rfl

theorem zeroPrestartStep_frame (s : State) : OnlySupply s (zeroPrestartStep s) := by
  unfold zeroPrestartStep
  split
  · exact enterSeq_frame _ _ _
  · rfl

theorem zeroWarmupStep_frame (s : State) : OnlySupply s (zeroWarmupStep s) := by
  unfold zeroWarmupStep
  split
  · exact warmOutStep_frame s
  · rfl

theorem zeroCooldownStep_frame (s : State) : OnlySupply s (zeroCooldownStep s) := by
  unfold zeroCooldownStep
  split
  · exact enterSeq_frame _ _ _
  · rfl

/-- Step 6 (R101). -/
theorem sequenceStep_frame (s : State) : OnlySupply s (sequenceStep s) :=
  ((((seqTimers_frame s).trans (seqAct_frame _)).trans (zeroPrestartStep_frame _)).trans (zeroWarmupStep_frame _)).trans
    (zeroCooldownStep_frame _)

theorem makeEnd_frame (s : State) : OnlySupply s (makeEnd s) := by
  unfold makeEnd
  split
  · split
    · dsimp only
      split
      · rfl
      · exact (onlySupply_withSc s _).trans (enterSeq_frame _ _ _)
    · rfl
  · rfl

theorem transferStep_frame (s : State) : OnlySupply s (transferStep s) := by
  unfold transferStep
  dsimp only
  refine OnlySupply.trans (b := makeEnd (endBreak s)) ((endBreak_frame _).trans (makeEnd_frame _)) ?_
  split
  · exact beginTransfer_frame _ _
  · rfl

/-- A supply evaluation touches the CC, the RC, the SC, the RQU and the notices alone (R101). -/
theorem supplyEval_frame (s : State) : OnlySupply s (supplyEval s) :=
  ((supplyFront_frame s).trans (sequenceStep_frame _)).trans (transferStep_frame _)

/-! ### One slot's or detector's turn -/

theorem slots_below_succ (k : Slot) :
    (List.finRange 12).filter (fun j => j.val < k.val + 1) = (List.finRange 12).filter (fun j => j.val < k.val) ++ [k] := by
  revert k; decide

theorem dets_below_succ (d : Fin 32) :
    (List.finRange 32).filter (fun j => j.val < d.val + 1) = (List.finRange 32).filter (fun j => j.val < d.val) ++ [d] := by
  revert d; decide

/-- A slot's turn in the RC's second follows the turns of the slots below it (notes/assumptions/18.md). -/
theorem slotSeconds_succ (k : Slot) (s : State) : slotSeconds (k.val + 1) s = slotSecond k (slotSeconds k.val s) := by
  simp only [slotSeconds, slots_below_succ, List.foldl_append, List.foldl_cons, List.foldl_nil]

/-- A detector's turn in an evaluation follows the turns of the detectors below it, and one under proof has none (R144, R150). -/
theorem detsBelow_succ (d : Fin 32) (conds : Vector Bool 32) (s : State) :
    detsBelow (d.val + 1) conds s =
      if (detsBelow d.val conds s).underProof d then detsBelow d.val conds s else moveDet d conds[d] (detsBelow d.val conds s) := by
  simp only [detsBelow, dets_below_succ, List.foldl_append, List.foldl_cons, List.foldl_nil]
  rfl

/-! ### Settings taken (R142, R145, R160) -/

/-- The nearest choice of a detector's setting is a choice, and none is nearer (R142, R160). -/
theorem nearest_choice (g : DetField) (v : Int) :
    nearest v g.choices ∈ g.choices ∧ ∀ c ∈ g.choices, (v - (nearest v g.choices : Nat)).natAbs ≤ (v - (c : Nat)).natAbs := by
  cases g <;> simp only [DetField.choices, nearest, nearerOf] <;> (repeat' split) <;> simp <;> omega

@[simp] theorem reclassed_marks (d : Fin 32) (c : DetClass) (e : Det) : (reclassed d c e).marks = e.marks := by
  unfold reclassed; (repeat' split) <;> rfl

@[simp] theorem reclassed_seen (d : Fin 32) (c : DetClass) (e : Det) : (reclassed d c e).seen = e.seen := by
  unfold reclassed; (repeat' split) <;> rfl

/-! ### New requests (R159, R160) -/

/-- The bytes of a request's frame come apart into the frame's own parts. -/
theorem frameParts_frameBytes (code : Nat) (f : Frame) (hl : f.args.length ≤ 12) (hs : (frameBytes code f).sum = 0#8) :
    frameParts (frameBytes code f) = some ⟨f.tag, BitVec.ofNat 8 code, f.index, f.args⟩ := by
  have hlen : (frameBytes code f).length = f.args.length + 5 := by simp [frameBytes]
  have hp : passesCheck (frameBytes code f) = true := by simp [passesCheck, hs]
  unfold frameParts
  rw [if_neg (by simp [hlen, hp]; omega)]
  simp [frameBytes]

/-- A new request is carried out as tests 2 to 6 of R160 and its owner's rule give, and its response is given and kept (R159). -/
theorem takeFor_new (c : Request) (q : Port) (f : Frame) (s : State) (hs : s.startStep ≠ .load) (hl : f.args.length = c.argCount)
    (ha : c.argCount ≤ 12) (hc : (frameBytes c.code f).sum = 0#8) (hn : (s.port q).lastFrame ≠ some (frameBytes c.code f))
    (hb : c.setUpBy ≤ s.startStep.ended) :
    takeFor c q f s = giveAndKeep q (frameBytes c.code f)
      ⟨f.tag, (c.outcome q f.index.toNat f.args s).status, (c.outcome q f.index.toNat f.args s).data⟩
      (c.outcome q f.index.toNat f.args s).after := by
  unfold takeFor takeFrame
  rw [if_neg hs, frameParts_frameBytes _ _ (by omega) hc]
  simp only
  rw [if_neg hn]
  simp only [takeRequest]
  rw [if_neg (by simp [hl]), if_neg (by omega)]

end Sys2Proof.Machine
end

