-- ==== Sys2Proof/Tests/Slice0.lean ====
section
/-! SUPPORT. Tests: the smoke tests of the checks, worked cases of spec/, and a witness for the hypotheses of every statement. -/

namespace Sys2Proof.Tests

open Sys2Proof.Machine

-- Each test is checked in turn: a thread apiece would be more than the memory limit allows.
set_option Elab.async false

/-! ### Small states -/

/-- A quiet value of each analog channel: 54.000 V, 30.0 A into each string, 10.0 A of load, 30.0 °C, 230 V at 50.0 Hz, 30.0 % of fuel. -/
def calm (ch : Fin 12) : Int :=
  if ch = 0 then 54000 else if ch = 7 ∨ ch = 9 then 230 else if ch = 8 ∨ ch = 10 then 500 else if ch = 3 then 100 else 300

/-- A period whose four samples are equal. -/
def same (v : Int) : AnalogPeriod := ⟨⟨v, .none⟩, ⟨v, .none⟩, ⟨v, .none⟩, ⟨v, .none⟩⟩

/-- A period with one sample at an end stop. -/
def stopped (e : EndStop) : AnalogPeriod := ⟨⟨0, e⟩, ⟨0, .none⟩, ⟨0, .none⟩, ⟨0, .none⟩⟩

/-- Readings of quiet values, every input at its second level. -/
def calmPeriod : Readings := ⟨vgen fun ch => same (calm ch), Vector.replicate 13 false⟩

/-- The quiet readings with one channel's samples replaced. -/
def periodWith (ch : Fin 12) (p : AnalogPeriod) : Readings := { calmPeriod with analog := calmPeriod.analog.set ch p }

/-- The quiet readings with one input at its first level. -/
def periodInput (i : Fin 13) : Readings := { calmPeriod with inputs := calmPeriod.inputs.set i true }

/-- The MU with every record at its quiet value. -/
def calmMu : Mu :=
  ⟨vgen fun ch => ⟨.valid, some (calm ch), 0, if ch.val = 4 ∨ ch.val = 5 ∨ ch.val = 6 ∨ ch.val = 11 then [calm ch] else []⟩,
   Vector.replicate 13 ⟨some false, [false, false, false], false⟩⟩

/-- A running part with quiet measurements. -/
def awake : State := { State.reset with startStep := .running, mu := calmMu }

/-- One analog record replaced. -/
def State.reading (s : State) (ch : Fin 12) (a : AnalogRec) : State := s.withMu { s.mu with analog := s.mu.analog.set ch a }

/-- A VALID value in one channel. -/
def State.reads (s : State) (ch : Fin 12) (v : Int) : State := State.reading s ch ⟨.valid, some v, 0, []⟩

/-- One input at its first level. -/
def State.sees (s : State) (i : Fin 13) : State :=
  s.withMu { s.mu with inputs := s.mu.inputs.set i ⟨some true, [true, true, true], false⟩ }

/-- One plain setting replaced. -/
def State.tuned (s : State) (k : Setting) (v : Nat) : State := s.withSs { s.ss with table := s.ss.table.put k v }

/-- The sequence record replaced. -/
def State.engine (s : State) (q : Machine.Seq) : State := s.withSc { s.sc with seq := q }

/-- The sequence at a state, its outputs as R108 gives them, with no stop pulse. -/
def seqAt (st : SeqState) : Machine.Seq :=
  { Seq.initial 3 with state := st, stop := st == .stopping, stopPulse := 0, glow := st == .preStart, crank := st == .cranking }

/-- One module's service record replaced by its image. -/
def State.onMod (s : State) (k : Slot) (f : Module → Module) : State := s.setMod k (f (s.mod k))

/-- One detector's entry at a state and count. -/
def State.detAt (s : State) (d : Fin 32) (st : DetState) (count : Nat) : State :=
  s.setDet d { s.det d with state := st, count := count }

/-- A frame of a request with a right check byte. -/
def frameFor (c : Request) (index : Nat) (args : List Nat) : Frame :=
  let a := args.map (BitVec.ofNat 8)
  ⟨7#8, BitVec.ofNat 8 index, a, -([165#8, 7#8, BitVec.ofNat 8 c.code, BitVec.ofNat 8 index] ++ a).sum⟩

/-- A frame with the request's argument bytes and a right sum is a new request at a port that holds no frame. -/
theorem new_request (c : Request) (q : Port) (f : Frame) (s : State) (h : s.startStep = .running := by rfl)
    (hl : f.args.length = c.argCount := by rfl) (hs : (frameBytes c.code f).sum = 0#8 := by decide +kernel)
    (hn : (s.port q).lastFrame = none := by rfl) : NewRequest c q f s := ⟨h, hl, hs, by simp [hn]⟩

/-- The same with no site hold. -/
theorem free_request (c : Request) (q : Port) (f : Frame) (s : State) (h : s.startStep = .running := by rfl)
    (hl : f.args.length = c.argCount := by rfl) (hs : (frameBytes c.code f).sum = 0#8 := by decide +kernel)
    (hn : (s.port q).lastFrame = none := by rfl) (hh : s.pc.siteHold = false := by rfl) : FreeRequest c q f s :=
  ⟨⟨h, hl, hs, by simp [hn]⟩, .inl hh⟩

/-! ### The checks refuse ill-formed commands -/

theorem test_reply_of_six_bytes_is_ill_formed : (Instr.replyFrameReceived [0#8, 0#8, 0#8, 0#8, 0#8, 0#8]).wellFormed = false := by decide
theorem test_break_end_after_a_second_is_ill_formed : (Instr.breakPhaseEnd 1000).wellFormed = false := by decide
theorem test_served_minutes_of_the_part_is_ill_formed : (Instr.servedMinutesComplete .internal).wellFormed = false := by decide
theorem test_request_with_wrong_check_is_ill_formed :
    (Instr.readFuel .craft ⟨7#8, 0#8, [], 0#8⟩).wellFormed = false := by decide +kernel
theorem test_request_with_missing_argument_is_ill_formed :
    (Instr.setMask .craft (frameFor reqSetMask 0 [1])).wellFormed = false := by decide +kernel
theorem test_catalogued_frame_is_not_uncatalogued :
    (Instr.uncataloguedRequestFrame .craft (frameBytes 22 (frameFor reqReadFuel 0 []))).wellFormed = false := by decide +kernel
theorem test_frame_without_start_is_ill_formed : (Instr.uncataloguedRequestFrame .craft [1#8, 2#8, 3#8]).wellFormed = false := by
  decide +kernel
theorem test_well_formed_request : (Instr.setMask .craft (frameFor reqSetMask 0 [0, 1])).wellFormed = true := by decide +kernel

/-! ### The step's witnesses -/

theorem witness_StepRunsTheFrontCommand :
    (awake.withPending [.accountUpdate]).pending = Instr.accountUpdate :: [] ∧ awake.pending = [] := ⟨rfl, rfl⟩

theorem witness_NamedEventIsItsPeriodicStep :
    periodicOf (.anchor .strB) = some .accountUpdate ∧ periodicOf .rotationEvent = some .minuteEvent ∧
    periodicOf (.crankExpiry calmPeriod) = some (.measurementPeriod calmPeriod) := ⟨rfl, rfl, rfl⟩

/-! ### The invariants' witnesses: a state that meets each and steps on -/

/-- A transfer TO-MAINS whose BREAK phase may end. -/
def breaking : State :=
  { awake with
    sc := { awake.sc with transfer := some (.toMains, .brk), gc := { awake.sc.gc with openMs := some 1000 } }
    pending := [.breakPhaseEnd 0] }

theorem witness_ContactorsNeverClosedTogether : Interlocked breaking ∧ ∃ t, step breaking = .next t ∧ t.sc.mc.closed = true :=
  ⟨by unfold Interlocked; decide +kernel, _, rfl, by decide +kernel⟩

/-- The part with an account update in front. -/
def updating : State := awake.withPending [.accountUpdate]

theorem witness_AccountsStayInRange : AccountsInRange updating ∧ ∃ t, step updating = .next t := by
  refine ⟨⟨?_, ⟨?_, ?_⟩, ?_⟩, _, rfl⟩
  · intro g a h
    cases g <;> cases h <;> (unfold Account.InRange; decide +kernel)
  all_goals exact fun _ h => nomatch h

theorem witness_SettingsStayInRange : SettingsRight updating ∧ ∃ t, step updating = .next t := by
  refine ⟨⟨⟨?_, ?_, ?_, ?_⟩, ?_, ?_⟩, _, rfl⟩
  · intro k
    cases k <;> decide +kernel
  iterate 3 decide +kernel
  all_goals exact fun _ h => nomatch h

/-- The part on MAINS, its contactor proved closed, slot 0 RUNNING and slot 1 STARTING. -/
def onMains : State :=
  State.onMod (State.onMod (State.sees { awake with sc := { awake.sc with
    source := .mains, mains := .up, startUp := false, mc := ⟨true, 9, none, false⟩, gc := ⟨false, 9, some 9000, false⟩,
    seq := seqAt .off } } inMcAux) 0 fun m => { m with service := .running, runMinutes := 2000 }) 1 fun m => { m with service := .starting }

/-- The same on GENERATOR, at the GEN_CAP of 2. -/
def onGenerator : State :=
  State.tuned { onMains with sc := { onMains.sc with source := .generator } } .genCap 2

theorem witness_RunNeedsASupply :
    (RunFollowsSupply updating ∧ ∃ t, step updating = .next t) ∧ RunFollowsSupply (onGenerator.withPending [.demandEvaluation]) ∧
    (onGenerator.withPending [.demandEvaluation]).onCount = 2 ∧
    ∃ t, step (onGenerator.withPending [.demandEvaluation]) = .next t := by
  unfold RunFollowsSupply
  exact ⟨⟨by decide +kernel, _, rfl⟩, by decide +kernel, by decide +kernel, _, rfl⟩

/-- Slots 2 and 3 queued in STANDBY. -/
def queued : State :=
  let s := State.onMod (State.onMod onMains 2 fun m => { m with service := .standby }) 3 fun m => { m with service := .standby }
  { s with rc := { s.rc with queue := [3, 2] }, pending := [.demandEvaluation] }

theorem witness_QueueHoldsStandbyModules : QueueOfStandby queued ∧ ∃ t, step queued = .next t := by
  unfold QueueOfStandby
  exact ⟨by decide +kernel, _, rfl⟩

/-- A swap in flight: slot 0 is its H, slot 1 its L after some seconds of STARTING. -/
def swapping (seconds : Nat) : State :=
  let s := State.onMod onMains 1 fun m => { m with timeIn := seconds }
  { s with rc := { s.rc with swap := some (0, 1) } }

/-- A swap's rightness at a state, from its slots. -/
theorem swap_right_of {s : State} (h l : Slot) (hs : s.rc.swap = some (h, l) := by decide +kernel)
    (hm : s.sc.source = .mains ∧ (s.mod h).service = .running ∧ (s.mod l).service = .starting := by decide +kernel) : SwapRight s := by
  intro h' l' e
  cases hs.symm.trans e
  exact hm

theorem witness_QueueHoldsStandbyModules_swap :
    (SwapRight ((swapping 3).withPending [.holdModule .craft (frameFor reqHoldModule 1 [])]) ∧
      ∃ t, step ((swapping 3).withPending [.holdModule .craft (frameFor reqHoldModule 1 [])]) = .next t) ∧
    SwapRight ((swapping 14).withPending [.startWindowExpiry 1 calmPeriod]) ∧
    ∃ t, step ((swapping 14).withPending [.startWindowExpiry 1 calmPeriod]) = .next t :=
  ⟨⟨swap_right_of 0 1, _, rfl⟩, swap_right_of 0 1, _, rfl⟩

theorem settings_right_updating : SettingsRight updating := witness_SettingsStayInRange.1

theorem witness_AccountsStayInRange_capacity : SettingsRight updating ∧ CapacitiesInRange updating := by
  refine ⟨settings_right_updating, fun g a h => ?_⟩
  cases g <;> cases h <;> decide +kernel

theorem witness_SetpointsAndFuelStayInRange :
    SettingsRight updating ∧ SetpointsInRange updating ∧ FuelInRange updating ∧ ∃ t, step updating = .next t := by
  refine ⟨settings_right_updating, by unfold SetpointsInRange; decide +kernel, ⟨by decide +kernel, by decide +kernel, ?_, ?_, ⟨?_, ?_⟩, ?_⟩, _, rfl⟩
  · intro v h
    have e : (updating.analog 11).value = some 300 := by decide +kernel
    rw [e] at h
    cases h
    decide
  · decide +kernel
  all_goals exact fun _ h => nomatch h

/-- PRE-START one attempt below the limit, with a measurement period in front. -/
def preStarting : State :=
  (State.engine awake { seqAt .preStart with attempts := 2 }).withPending [.measurementPeriod calmPeriod]

theorem witness_SequenceStaysRight : SettingsRight preStarting ∧ SequenceRight preStarting ∧ ∃ t, step preStarting = .next t := by
  refine ⟨settings_right_updating, ?_, _, rfl⟩
  unfold SequenceRight EngineOutputsRight
  decide +kernel

theorem witness_SequenceStaysRight_stop_and_gc :
    StopAndGcRight preStarting ∧ StopAndGcRight (State.engine awake { seqAt .off with stop := true, stopPulse := 1 }) :=
  ⟨show preStarting.sc.seq.stop = false ∧ preStarting.sc.gc.closed = false by decide +kernel, fun _ => .inl Nat.one_pos⟩

/-- COOL-DOWN at its last second with GC kept CLOSED by a warm restart: STOPPING opens GC (R108). -/
theorem test_entry_to_stopping_opens_gc :
    let s := { awake with sc := { awake.sc with gc := ⟨true, 9, none, false⟩, seq := { seqAt .coolDown with seconds := 179 } } }
    (enterSeq .stopping id s).sc.gc.closed = false ∧ (enterSeq .onLoad id s).sc.gc.closed = true := by decide +kernel

/-- An entry of the schedule. -/
def entry (k : SchedKind) (day : Nat) : SchedEntry := ⟨k, ⟨day, 60⟩, 60, some 60, .craft, true⟩

/-- A run request. -/
def request (r : Reason) (o : Origin) : RunReq := ⟨r, o, .normal, true, some 15, 14, none, true, true⟩

/-- Two entries and two requests, with a minute event in front. -/
def scheduled : State :=
  { awake with
    rqu := { awake.rqu with
      schedule := [entry .exercise 0, entry .boostCharge 0]
      reqs := [request .portRun (.port .craft), request .portRun (.port .telemetry)] }
    pending := [.minuteEvent] }

theorem witness_ScheduleAndRequestsStayRight :
    SchedulesRight scheduled ∧ RequestsDistinct scheduled ∧ ∃ t, step scheduled = .next t := by
  refine ⟨⟨by unfold ScheduleRight; decide +kernel, ?_, ?_⟩, by unfold RequestsDistinct; decide +kernel, _, rfl⟩
  all_goals exact fun _ h => nomatch h

theorem witness_RelaysFollowDetectors : RelaysRight updating ∧ ∃ t, step updating = .next t := by
  refine ⟨?_, _, rfl⟩
  unfold RelaysRight
  exact ⟨⟨fun _ => .inl rfl, fun _ => rfl⟩, ⟨fun _ => .inl rfl, fun _ => rfl⟩⟩

/-- S1 and S2 open. -/
def shed : State :=
  { awake with shc := ⟨#v[⟨.openAuto, 30, false, none, 59⟩, ⟨.openAuto, 30, false, none, 59⟩, .initial, .initial], 9⟩, pending := [.accountUpdate] }

theorem witness_ShedStagesStayNested : ShedNested shed ∧ ∃ t, step shed = .next t := by
  unfold ShedNested
  exact ⟨by decide +kernel, _, rfl⟩

theorem witness_AttentionFollowsPendingSet : AttentionRight updating ∧ ∃ t, step updating = .next t := by
  refine ⟨fun q => ?_, _, rfl⟩
  cases q <;> decide +kernel

/-- The sequence locked out by a failed start. -/
def lockedOut : State := State.engine awake { seqAt .lockedOut with failStart := true }

theorem witness_LockedOutIsLeftByReleaseAlone :
    (Instr.releaseGenerator .craft (frameFor reqReleaseGenerator 0 [])).wellFormed = true ∧ SequenceRight lockedOut ∧
    lockedOut.sc.seq.state = .lockedOut ∧
    ∃ t, exec (.releaseGenerator .craft (frameFor reqReleaseGenerator 0 [])) lockedOut = .next t ∧ t.sc.seq.state = .off := by
  unfold SequenceRight EngineOutputsRight
  exact ⟨by decide +kernel, by decide +kernel, rfl, _, rfl, by decide +kernel⟩

/-! ### The frames' witnesses -/

theorem witness_PeriodicStepFrames :
    (∃ t, exec (.measurementPeriod calmPeriod) awake = .next t) ∧ (∃ t, exec .accountUpdate awake = .next t) ∧
    ∃ t, exec .minuteEvent awake = .next t := ⟨⟨_, rfl⟩, ⟨_, rfl⟩, ⟨_, rfl⟩⟩

theorem witness_OtherEventFrames :
    (∃ t, exec .pollAttemptStart awake = .next t) ∧ (∃ t, exec .replyWindowClose State.reset = .next t) ∧
    (∃ t, exec .demandEvaluation awake = .next t) ∧ (∃ t, exec (.breakPhaseEnd 0) breaking = .next t) ∧
    (∃ t, exec .checkpointWriteComplete awake = .next t) ∧ ∃ t, exec .settingsSaveComplete awake = .next t :=
  ⟨⟨_, rfl⟩, ⟨_, rfl⟩, ⟨_, rfl⟩, ⟨_, rfl⟩, ⟨_, rfl⟩, ⟨_, rfl⟩⟩

theorem witness_RequestFrames :
    requestOf (.setMask .craft (frameFor reqSetMask 0 [0, 1])) = some (reqSetMask, .craft, frameFor reqSetMask 0 [0, 1]) ∧
    ∃ t, exec (.setMask .craft (frameFor reqSetMask 0 [0, 1])) awake = .next t := ⟨rfl, _, rfl⟩

theorem witness_RequestFrames_release :
    requestOf (.releaseGenerator .craft (frameFor reqReleaseGenerator 0 [])) =
      some (reqReleaseGenerator, .craft, frameFor reqReleaseGenerator 0 []) ∧ reqReleaseGenerator.code = 38 ∧
    lockedOut.sc.gc.closed = false := ⟨rfl, rfl, by decide +kernel⟩

/-! ### Plant measurements -/

/-- One channel HELD at an age. -/
def heldAt (s : State) (ch : Fin 12) (age : Nat) : State := State.reading s ch ⟨.held, some (calm ch), age, []⟩

theorem witness_AnalogRecordMoves :
    (State.reset.analog 1).cond = .empty ∧ ((heldAt awake 1 1).analog 1).cond ≠ .empty ∧
    ¬TableImplausible 1 (same 8100) ∧ TableImplausible 1 (same 8101) ∧ ¬TableImplausible 8 (same 1000) ∧ TableImplausible 8 (same 1001) ∧
    ¬TableImplausible 7 (stopped .lower) ∧ TableImplausible 7 (stopped .upper) ∧ ¬TableImplausible 4 (same (-450)) ∧
    TableImplausible 4 (same (-451)) := by
  refine ⟨by decide +kernel, by decide +kernel, ?_⟩
  simp [TableImplausible, StoppedAt, meanOf, same, stopped]

theorem witness_ChannelLapsesAtItsHoldTime :
    TableImplausible 0 (periodWith 0 (stopped .lower)).analog[(0 : Fin 12)] ∧
    TableImplausible 7 (periodWith 7 (stopped .upper)).analog[(7 : Fin 12)] ∧
    ((heldAt awake 0 9).analog 0).cond = .held ∧ holdSeconds 0 ≤ min 65535 (((heldAt awake 0 9).analog 0).heldAge + 1) ∧
    holdSeconds 0 = 10 ∧ (awake.analog 7).cond = .valid ∧ holdSeconds 7 ≤ min 65535 ((awake.analog 7).heldAge + 1) := by
  refine ⟨?_, ?_, by decide +kernel⟩ <;> simp [TableImplausible, StoppedAt, periodWith, stopped]

theorem witness_InputsAreDebounced :
    ((State.sees awake inKey).input 8).level ≠ some false ∧
    ((exec (.measurementPeriod calmPeriod) (State.withMu awake { awake.mu with
      inputs := awake.mu.inputs.set 8 ⟨some true, [true, false, false], false⟩ })) =
      .next (periodStep calmPeriod (State.withMu awake { awake.mu with
        inputs := awake.mu.inputs.set 8 ⟨some true, [true, false, false], false⟩ }))) ∧
    ((periodStep calmPeriod (State.withMu awake { awake.mu with
      inputs := awake.mu.inputs.set 8 ⟨some true, [true, false, false], false⟩ })).input 8).level = some false := by
  exact ⟨by decide +kernel, rfl, by decide +kernel⟩

/-- R3's first worked case: -1201, -1204, -1203 and -1205 have the mean -1203. -/
theorem test_period_value_rounds_toward_zero :
    ((periodStep (periodWith 1 ⟨⟨-1201, .none⟩, ⟨-1204, .none⟩, ⟨-1203, .none⟩, ⟨-1205, .none⟩⟩) awake).analog 1).value = some (-1203) := by
  decide +kernel

/-- R3's second worked case: 500, 500, 0 and 0 have the mean 250. -/
theorem test_period_value_of_two_halves :
    ((periodStep (periodWith 10 ⟨⟨500, .none⟩, ⟨500, .none⟩, ⟨0, .none⟩, ⟨0, .none⟩⟩) awake).analog 10).value = some 250 := by
  decide +kernel

theorem test_held_record_lapses : ((periodStep (periodWith 0 (stopped .lower)) (heldAt awake 0 9)).analog 0).cond = .lapsed := by
  decide +kernel

/-! ### The battery account -/

/-- Both strings at 600 Ah, string A in band 4 at its worked effective capacity and content. -/
def worked (q residue : Nat) : State :=
  let s := State.tuned (State.tuned (State.reads awake 4 150) .capA 600) .capB 600
  { s with
    au := { s.au with acctA := { s.au.acctA with q := q, residue := residue, cfull := 20503125, band := 4, assumed := false, soc := q * 1000 / 20503125 } }
    cc := { s.cc with setpoint := 60000 } }

/-- The worked charge of chapter 2: 45.2 A for a second. -/
theorem test_worked_charge :
    let a := (updateStep (State.reads (worked 16000000 100) 1 452)).au.acctA
    (a.q, a.residue, a.soc) = (16000441, 204, 780) := by decide +kernel

/-- The worked discharge of chapter 2: 120.3 A for a second. -/
theorem test_worked_discharge :
    let a := (updateStep (State.reads (worked 16000000 100) 1 (-1203))).au.acctA
    (a.q, a.residue, a.runtime) = (15998797, 100, 221) := by decide +kernel

theorem witness_AccountUpdateCountsTheCharge :
    awake.account .strA = some awake.au.acctA ∧ awake.cfg .strings ≠ 1 ∧ (awake.analog (chCurrent .strA)).cond = .valid ∧
    (awake.analog (chCurrent .strA)).value = some 300 ∧ (awake.taperThreshold .strA : Int) < 300 ∧
    ((State.reads awake 1 (-1)).analog (chCurrent .strA)).value = some (-1) ∧
    (State.reads { awake with au := { awake.au with acctA := { awake.au.acctA with q := 0 } } } 1 (-1)).au.acctA.q = 0 := by
  decide +kernel

/-- One string, string B's account still there; and two strings, its account not yet created. -/
def oneString : State := State.tuned awake .strings 1
/-- Two strings, string B's account not yet created. -/
def uncreated : State := { awake with au := { awake.au with acctB := none } }

theorem witness_AccountUpdateCountsTheCharge_created :
    (oneString.cfg .strings = 1 ∧ handledAccount oneString .strB = none) ∧
    (uncreated.cfg .strings ≠ 1 ∧ handledAccount uncreated .strB = some (Account.half (cfullOf awake.ss.table .strB 5)) ∧
      handledAccount uncreated .strA = some awake.au.acctA ∧ (uncreated.analog (chCurrent .strB)).cond = .valid ∧
      (uncreated.analog (chCurrent .strB)).value = some 300 ∧ (uncreated.taperThreshold .strB : Int) < 300) := by decide +kernel

/-- String B half full as created and string A at 780 per mille. -/
def unequal : State := { worked 16000000 100 with au := { (worked 16000000 100).au with acctB := none } }

/-- STRINGS 1 discards string B's account and STRINGS 2 creates it (R17); a difference beyond IMBAL_PM is IMBALANCED, where both currents are VALID
(R33). -/
theorem test_second_account_and_imbalance :
    ((updateStep oneString).au.acctB = none ∧ (updateStep oneString).au.imbalance = .notEvaluated) ∧
    ((updateStep unequal).au.acctB.isSome = true ∧ (updateStep unequal).au.imbalance = .imbalanced) ∧
    (updateStep (heldAt unequal 2 5)).au.imbalance = .notEvaluated := by decide +kernel

/-- String A's current HELD, with ten updates without a VALID one behind it. -/
def blind : State :=
  let s := heldAt awake 1 5
  { s with au := { s.au with acctA := { s.au.acctA with lost := 10 } } }

theorem witness_LostCurrentIsSubstituted :
    blind.account .strA = some blind.au.acctA ∧ (blind.analog (chCurrent .strA)).cond = .held ∧ 10 ≤ blind.au.acctA.lost ∧
    (State.reset.analog (chCurrent .strA)).cond = .empty ∧ State.reset.account .strA = some State.reset.au.acctA ∧
    ((State.reading awake 1 ⟨.lapsed, some 3, 10, []⟩).analog (chCurrent .strA)).cond = .lapsed := by decide +kernel

theorem witness_LostCurrentIsSubstituted_created :
    let s := State.reading uncreated 2 ⟨.empty, none, 0, []⟩
    handledAccount s .strB = some (Account.half (cfullOf s.ss.table .strB 5)) ∧ (s.analog (chCurrent .strB)).cond = .empty := by decide +kernel

theorem test_lost_current_makes_unsure : (updateStep blind).au.acctA.conf = .unsure ∧ (updateStep blind).au.acctA.lost = 11 := by
  decide +kernel

/-- String A one second before its anchor. -/
def tapered : State :=
  let s := State.reads awake 1 20
  { s with au := { s.au with acctA := { s.au.acctA with taperMin := 59, taperSec := 59 } } }

/-- String A ANCHORED one second before its drift, in BOOST. -/
def drifting : State :=
  { awake with
    cc := { awake.cc with mode := .boost, boostRemaining := some 480 }
    au := { awake.au with acctA := { awake.au.acctA with conf := .anchored, hours := 719, anchorSec := 3599 } } }

theorem witness_AnchorAndDrift :
    (tapered.account .strA = some tapered.au.acctA ∧ tapered.cc.mode = .float ∧ (tapered.analog (chCurrent .strA)).cond = .valid ∧
      (tapered.analog (chCurrent .strA)).value = some 20 ∧ (20 : Int) ≤ tapered.taperThreshold .strA ∧
      (tapered.analog chBus).usable = some 54000 ∧ (tapered.cc.setpoint : Int) - 100 ≤ 54000 ∧
      tapered.cfg .anchorMin ≤ (if 59 ≤ tapered.au.acctA.taperSec then min 65535 (tapered.au.acctA.taperMin + 1) else tapered.au.acctA.taperMin) ∧
      0 < tapered.cfg .driftLimit) ∧
    (drifting.account .strA = some drifting.au.acctA ∧ drifting.au.acctA.conf = .anchored ∧ drifting.cc.mode ≠ .float ∧
      (drifting.analog (chCurrent .strA)).cond = .valid ∧ (drifting.analog (chCurrent .strA)).value = some 300 ∧
      drifting.cfg .driftLimit ≤ (if 3599 ≤ drifting.au.acctA.anchorSec then min 65535 (drifting.au.acctA.hours + 1) else drifting.au.acctA.hours)) := by
  decide +kernel

theorem test_anchor_sets_full : (updateStep tapered).au.acctA.conf = .anchored ∧ (updateStep tapered).au.acctA.q = 7200000 := by
  decide +kernel

/-- A checkpoint count one below its period. -/
def counted : State := { awake with au := { awake.au with count := 3599 } }

/-- A checkpoint write and a save in progress. -/
def writing : State :=
  { awake with ss := { awake.ss with ckptWrite := some .first, ckptWaiting := some (ckptContent awake), save := some ⟨.second, .telemetry⟩ } }

theorem witness_CheckpointsAndSavesComplete :
    3600 ≤ counted.au.count + 1 ∧ counted.ss.ckptWrite = none ∧
    3600 ≤ { counted with ss := writing.ss }.au.count + 1 ∧ { counted with ss := writing.ss }.ss.ckptWrite.isSome = true ∧
    writing.ss.ckptWrite = some .first ∧ writing.ss.ckptWaiting = some (ckptContent awake) ∧
    { writing with ss := { writing.ss with ckptWaiting := none } }.ss.ckptWaiting = none ∧
    writing.ss.save = some ⟨.second, .telemetry⟩ ∧ awake.ss.save = none := ⟨by decide, rfl, by decide, rfl, rfl, rfl, rfl, rfl, rfl⟩

/-- A checkpoint being written over the older copy while the next one waits, at both ends of the sequence numbers. -/
def queueing (older : Nat) : State :=
  { writing with ss := { writing.ss with ckpt :=
    ⟨⟨false, true, (older + 1) % 4294967296, some (ckptContent awake)⟩, ⟨true, true, older, some (ckptContent awake)⟩⟩ } }

theorem witness_CheckpointsAndSavesComplete_waiting :
    (∀ n ∈ [0, 7, 4294967295], (queueing n).ss.ckptWrite = some .first ∧ (queueing n).ss.ckptWaiting = some (ckptContent awake) ∧
      LaterValid ((queueing n).ss.ckpt.setCopy .first { (queueing n).ss.ckpt.copy .first with mark := true }) .first) := by
  unfold LaterValid
  decide +kernel

/-- Two copies neither of which is valid, then one that is: the write takes the other with the next sequence number (R37). -/
theorem test_checkpoint_takes_the_other_copy :
    let v : NvArea Nat := ⟨⟨true, true, 4294967295, some 1⟩, .blank⟩
    (v.beginWrite .first 2).second = ⟨false, true, 0, some 2⟩ := by decide

/-! ### Charge modes -/

/-- In BOOST on MAINS with 899 seconds of taper behind it. -/
def tapering : State :=
  let s := State.reads (State.reads onMains 1 20) 2 20
  { s with cc := { s.cc with mode := .boost, boostRemaining := some 1, taperExit := 899 } }

theorem witness_BoostEnds :
    (tapering.cc.mode = .boost ∧ tapering.sc.source ≠ .none ∧ 899 ≤ tapering.cc.taperExit ∧
      (∃ v, (tapering.analog 1).usable = some v ∧ v ≤ tapering.taperThreshold .strA) ∧
      ∃ v, (tapering.analog 2).usable = some v ∧ v ≤ tapering.taperThreshold .strB) ∧
    (tapering.cc.boostRemaining = some 1 ∧ tapering.clk.isSet = false) ∧
    drifting.cc.boostRemaining = some 480 ∧ drifting.sc.source = .none := by
  refine ⟨⟨rfl, by decide, by decide, ⟨20, by decide +kernel, by decide +kernel⟩, ⟨20, by decide +kernel, by decide +kernel⟩⟩, ⟨rfl, rfl⟩, rfl, rfl⟩

theorem test_taper_exit_ends_the_boost : (updateStep tapering).cc.mode = .float ∧ (updateStep tapering).cc.refreshDone = false := by
  decide +kernel
theorem test_boost_timer_ends_the_boost : (minuteStep tapering).cc.mode = .float ∧ (minuteStep tapering).cc.armed = false := by
  decide +kernel

/-- In FLOAT on MAINS, string A STALE at a SoC above BOOST_ENTRY_PM. -/
def stale : State :=
  let full (a : Account) : Account := { a with q := a.cfull, soc := 1000 }
  let s := { onMains with au := { onMains.au with acctA := full onMains.au.acctA, acctB := onMains.au.acctB.map full } }
  { s with au := { s.au with acctA := { s.au.acctA with conf := .stale } } }

theorem witness_BoostEnds_entry :
    (onMains.cc.mode = .float ∧ onMains.cc.armed = true ∧ onMains.sc.source ≠ .none ∧
      (updateStep onMains).lowestSoc < onMains.cfg .boostEntryPm) ∧
    (let s := { onMains with cc := { onMains.cc with mode := .refresh, taperExit := 898 } }
     s.cc.mode = .refresh ∧ s.cc.taperExit < 899) ∧
    (stale.cc.mode = .float ∧ stale.cfg .boostEntryPm ≤ (updateStep stale).lowestSoc ∧ (updateStep stale).someStale = true ∧
      stale.sc.source = .mains ∧ stale.cc.refreshDone = false) := by decide +kernel

theorem test_boost_and_refresh_are_entered :
    (updateStep onMains).cc.mode = .boost ∧ (updateStep onMains).cc.boostRemaining = some 480 ∧ (updateStep stale).cc.mode = .refresh := by
  decide +kernel

/-- The source read as another than the contactors give. -/
def switched (before : Source) (mode : ChargeMode) : State :=
  let s := State.sees onMains inGcAux
  let t := match before with
    | .none => s
    | .mains => { s with sc := { s.sc with mc := { s.sc.mc with closed := false }, gc := { s.sc.gc with closed := true } } }
    | .generator => { s with sc := { s.sc with mc := { s.sc.mc with closed := false } } }
  { t with sc := { t.sc with source := before }, cc := { t.cc with mode := mode } }

theorem witness_BoostEnds_source :
    (switched .none .refresh).formedSource = .mains ∧ (switched .mains .refresh).formedSource = .generator ∧
    (switched .mains .refresh).lowestSoc < (switched .mains .refresh).cfg .recoverPm ∧
    (switched .mains .restricted).formedSource ≠ (switched .mains .restricted).sc.source ∧
    (switched .generator .refresh).formedSource = .none ∧ (switched .generator .refresh).sc.source ≠ .none := by decide +kernel

/-- String A's temperature at 50.0 °C, its detector a second before it qualifies. -/
def hot : State := State.detAt (State.reads awake 4 500) 4 .qualifying 29

/-- Readings of 50.0 °C at string A. -/
def hotPeriod : Readings := periodWith 4 (same 500)

theorem witness_BoostEnds_restriction :
    (hot.underProof 4 = false ∧ (takeInputs (periodSupply hotPeriod hot)).condition 4 = true ∧ (hot.det 4).state = .qualifying ∧
      (hot.detCfg 4).qualify ≤ (hot.det 4).count + 1 ∧ hot.cc.restriction = ⟨false, false, false⟩ ∧ hot.cc.mode ≠ .restricted ∧
      (hot.detCfg 4).cls = .recover) ∧
    (let s := { awake with cc := { awake.cc with mode := .restricted, restriction := ⟨false, true, false⟩ } }
     s.cc.restriction = Restriction.set 4 true ⟨false, false, false⟩) := by decide +kernel

/-- The bus setpoint of FLOAT at 25.0 °C with the default settings: 24 cells of 2,250 mV. -/
theorem test_float_setpoint : busSetpoint Settings.defaults .float 250 = 54000 := by decide +kernel

theorem witness_SetChargeModeFollowsItsTable :
    NewRequest reqSetChargeMode .telemetry (frameFor reqSetChargeMode 0 [1, 25]) awake ∧ awake.pc.siteHold = false ∧ awake.cc.mode = .float ∧
    NewRequest reqSetChargeMode .craft (frameFor reqSetChargeMode 0 [0, 0]) { awake with cc := { awake.cc with mode := .restricted } } ∧
    NewRequest reqSetChargeMode .telemetry (frameFor reqSetChargeMode 0 [0, 1]) { awake with pc := { awake.pc with siteHold := true } } ∧
    NewRequest reqSetChargeMode .craft (frameFor reqSetChargeMode 0 [2, 1]) { awake with pc := { awake.pc with siteHold := true } } :=
  ⟨new_request _ _ _ _, rfl, rfl, new_request _ _ _ _, new_request _ _ _ _, new_request _ _ _ _⟩

/-! ### The shelf bus -/

/-- An exchange with slot 5 in its last attempt, its window open, the second miss behind it. -/
def polled (attempt : Nat) (isOpen : Bool) : State :=
  let s := State.onMod onMains 5 fun m => { m with service := .running }
  { s with sbc := { s.sbc with
    links := s.sbc.links.set 5 ⟨2, true, none, none, 0, 2, none⟩
    exch := some ⟨5, attempt, ⟨.run, 53544, 400⟩, isOpen, []⟩ } }

theorem witness_PollsAreFormedFromTheRecords :
    (onMains.sbc.exch = none ∧ onMains.startStep = .running ∧ onMains.isFitted onMains.sbc.cursor = true) ∧
    (State.reset.sbc.exch = none ∧ State.reset.startStep = .discovery ∧ State.reset.isFitted State.reset.sbc.cursor = true) ∧
    (polled 2 true).sbc.exch = some ⟨5, 2, ⟨.run, 53544, 400⟩, true, []⟩ ∧
    (polled 2 false).sbc.exch = some ⟨5, 2, ⟨.run, 53544, 400⟩, false, []⟩ := by decide +kernel

/-- A running part with no slot fitted. -/
def unfitted : State := { awake with sbc := { awake.sbc with fitted := 0#12 } }

theorem witness_PollsAreFormedFromTheRecords_empty : unfitted.sbc.fitted = 0#12 ∧ unfitted.sbc.exch = none := by decide +kernel

/-- A repeat sends the frame in flight, and STANDBY where the module is no longer to run (R68). -/
theorem test_repeat_sends_its_bytes :
    (startAttempt (polled 2 false)).sbc.lastFrame = some [5#8, 2#8, 209#8, 40#8, 1#8, 144#8, 111#8] ∧
    ((startAttempt (State.onMod (polled 2 false) 5 fun m => { m with service := .stopping })).sbc.lastFrame.getD []).take 2 = [5#8, 1#8] := by
  decide +kernel

/-- R176's worked poll: slot 5, RUN, 53,544 mV and 40.0 A have the check byte 111. -/
theorem test_poll_check_byte : pollBytes 5 ⟨.run, 53544, 400⟩ = [5#8, 2#8, 209#8, 40#8, 1#8, 144#8, 111#8] := by decide

/-- R176's worked reply: slot 5, ON, 41.7 A at 46 °C with no fault has the check byte 42. -/
theorem test_reply_check_byte :
    judgeFrame 5 [5#8, 1#8, 1#8, 161#8, 46#8, 0#8, 42#8] = .good ⟨.on, 417, 46, 0⟩ := by decide

theorem witness_GoodRepliesAreTaken :
    (polled 1 true).sbc.exch = some ⟨5, 1, ⟨.run, 53544, 400⟩, true, []⟩ ∧
    (0 = 0 ↔ OutState.off ≠ .fault) ∧ (5 = 0 ↔ OutState.fault ≠ .fault) ∧
    (polled 1 true).startStep ≠ .discovery ∧ ((polled 1 true).link 5).answered = true ∧ ((polled 1 true).link 5).silence < 3 ∧
    ((polled 1 true).mod 5).service = .running := by decide +kernel

theorem witness_BadRepliesAndMisses :
    (polled 2 true).sbc.exch = some ⟨5, 2, ⟨.run, 53544, 400⟩, true, []⟩ ∧
    (polled 3 true).sbc.exch = some ⟨5, 3, ⟨.run, 53544, 400⟩, true, []⟩ ∧
    ((polled 3 true).link 5).silence = 2 ∧ ((polled 3 true).link 5).answered = true ∧
    7 < [5#8, 0#8, 0#8, 0#8, 0#8, 0#8, 251#8, 0#8].length ∧ [4#8, 0#8, 0#8, 0#8, 0#8, 0#8, 252#8].sum = 0#8 ∧
    [5#8, 0#8, 0#8, 0#8, 0#8, 1#8, 250#8].sum = 0#8 ∧ [5#8, 4#8, 0#8, 0#8, 0#8, 0#8, 247#8].sum = 0#8 := by decide +kernel

/-- The same with slot 5 as the L of a swap in flight, STARTING, slot 0 as its H. -/
def polledL (attempt : Nat) : State :=
  let s := State.onMod (polled attempt true) 5 fun m => { m with service := .starting }
  { s with rc := { s.rc with swap := some (0, 5) } }

/-- The same with slot 5 as the H, RUNNING, slot 1 as the L. -/
def polledH (attempt : Nat) : State := { polled attempt true with rc := { (polled attempt true).rc with swap := some (5, 1) } }

theorem witness_GoodRepliesAreTaken_swap :
    SwapRight (polledL 1) ∧ (polledL 1).sbc.exch = some ⟨5, 1, ⟨.run, 53544, 400⟩, true, []⟩ ∧ ((polledL 1).mod 5).service = .starting ∧
    (polledL 1).startStep ≠ .discovery ∧ ((polledL 1).link 5).answered = true ∧ ((polledL 1).link 5).silence < 3 ∧
    (polledL 1).rc.swap = some (0, 5) := ⟨swap_right_of 0 5, by decide +kernel⟩

theorem witness_BadRepliesAndMisses_swap :
    (SwapRight (polledL 3) ∧ (polledL 3).sbc.exch = some ⟨5, 3, ⟨.run, 53544, 400⟩, true, []⟩ ∧ ((polledL 3).link 5).silence = 2 ∧
      ((polledL 3).link 5).answered = true ∧ (polledL 3).rc.swap = some (0, 5)) ∧
    SwapRight (polledH 3) ∧ (polledH 3).sbc.exch = some ⟨5, 3, ⟨.run, 53544, 400⟩, true, []⟩ ∧ ((polledH 3).link 5).silence = 2 ∧
    ((polledH 3).link 5).answered = true ∧ (polledH 3).rc.swap = some (5, 1) :=
  ⟨⟨swap_right_of 0 5, by decide +kernel⟩, swap_right_of 5 1, by decide +kernel⟩

/-- The L found ON sends the H to STOPPING; the loss of either ends the swap, the other as it was (R96). -/
theorem test_swap_ends :
    (let t := frameArrives [5#8, 1#8, 1#8, 161#8, 46#8, 0#8, 42#8] (polledL 1)
     (t.rc.swap, (t.mod 5).service, (t.mod 0).service) = (none, .running, .stopping)) ∧
    (let t := windowCloses (polledL 3)
     (t.rc.swap, (t.mod 5).service, (t.mod 0).service) = (none, .lost, .running)) ∧
    (let t := windowCloses (polledH 3)
     (t.rc.swap, (t.mod 5).service, (t.mod 1).service) = (none, .lost, .starting)) := by decide +kernel

/-- An exchange with slot 5 in an attempt that has drawn these bad replies, the latest first. -/
def replied (attempt : Nat) (causes : List BadCause) : State :=
  { polled attempt true with sbc := { (polled attempt true).sbc with exch := some ⟨5, attempt, ⟨.run, 53544, 400⟩, true, causes⟩ } }

theorem witness_GoodRepliesAreTaken_after_bad_replies :
    (replied 3 [.check, .noReply]).sbc.exch = some ⟨5, 3, ⟨.run, 53544, 400⟩, true, [.check, .noReply]⟩ ∧
    (replied 2 [.malformed]).sbc.exch = some ⟨5, 2, ⟨.run, 53544, 400⟩, true, [.malformed]⟩ := by decide +kernel

theorem witness_BadRepliesAndMisses_after_bad_replies :
    (replied 3 [.check, .noReply]).sbc.exch = some ⟨5, 3, ⟨.run, 53544, 400⟩, true, [.check, .noReply]⟩ ∧
    (replied 2 [.noReply]).sbc.exch = some ⟨5, 2, ⟨.run, 53544, 400⟩, true, [.noReply]⟩ := by decide +kernel

/-- Two bad replies in mid-exchange change no link record; the third is counted with them at the exchange's end, and a good one counts them (R62). -/
theorem test_link_record_changes_at_the_end_of_the_exchange :
    (windowCloses (replied 2 [.check])).link 5 = (replied 2 [.check]).link 5 ∧
    ((windowCloses (replied 3 [.check, .malformed])).link 5).badTally = 3 ∧
    ((windowCloses (replied 3 [.check, .malformed])).link 5).lastBad = some .noReply ∧
    ((frameArrives [5#8, 1#8, 1#8, 161#8, 46#8, 0#8, 42#8] (replied 3 [.check, .malformed])).link 5).badTally = 2 ∧
    ((frameArrives [5#8, 1#8, 1#8, 161#8, 46#8, 0#8, 42#8] (replied 3 [.check, .malformed])).link 5).lastBad = some .check := by
  decide +kernel

theorem test_third_miss_in_a_row_loses_the_module : ((windowCloses (polled 3 true)).mod 5).service = .lost := by decide +kernel
theorem test_first_bad_reply_repeats : (windowCloses (polled 1 true)).sbc.exch =
    some ⟨5, 2, ⟨.run, 53544, 400⟩, false, [.noReply]⟩ := by decide +kernel

/-- The discovery round at the first attempt of its last exchange, slot 0 found ON, the others missed. -/
def roundEnding : State :=
  let s := State.reset.setLink 0 ⟨0, true, some ⟨.on, 10, 30, 0⟩, none, 0, 0, none⟩
  { s with sbc := { s.sbc with exch := some ⟨11, 3, ⟨.standby, 54000, 50⟩, true, []⟩ } }

theorem witness_RoundUnderWay : RoundUnderWay roundEnding ∧ (∀ j : Slot, roundEnding.isFitted j = true → j ≤ 11) ∧
    roundEnding.sbc.exch = some ⟨11, 3, ⟨.standby, 54000, 50⟩, true, []⟩ := by
  unfold RoundUnderWay
  decide +kernel

/-- The round's result (R75): slot 0, found ON, is adopted and stops at once on NONE; the missed slot 11 is ABSENT. -/
theorem test_round_result :
    ((windowCloses roundEnding).mod 0).service = .stopping ∧ ((windowCloses roundEnding).mod 11).service = .absent ∧
    (windowCloses roundEnding).startStep = .running := by decide +kernel

/-- Slot 5 at a service state with a link record, its exchange's window open. -/
def answering (st : Service) (link : Link) : State :=
  let s := State.onMod (polled 1 true) 5 fun m => { m with service := st }
  State.tuned (s.setLink 5 link) .minRunModules 5

theorem witness_GoodRepliesAreTaken_first_and_returned :
    (let s := answering .absent ⟨1, false, none, none, 0, 1, none⟩
     s.sbc.exch = some ⟨5, 1, ⟨.run, 53544, 400⟩, true, []⟩ ∧ s.startStep ≠ .discovery ∧ (s.mod 5).service = .absent ∧
      (s.link 5).answered = false ∧ s.marked 13 5 = false ∧ s.marked 14 5 = false) ∧
    (let s := answering .lost ⟨3, true, none, none, 0, 3, none⟩
     (s.mod 5).service = .lost ∧ (s.link 5).answered = true ∧ 3 ≤ (s.link 5).silence) := by decide +kernel

/-- A first answer ON confirms no start: the slot is STARTING by the demand evaluation, not RUNNING (R75, R90). -/
theorem test_first_answer_on_is_not_running :
    ((frameArrives [5#8, 1#8, 1#8, 161#8, 46#8, 0#8, 42#8] (answering .absent ⟨1, false, none, none, 0, 1, none⟩)).mod 5).service =
      .starting := by decide +kernel

/-! ### Demand, walk-in and rotation -/

theorem witness_DemandEvaluationFormsTheNeed :
    onMains.startStep = .running ∧ onMains.cfg .vbusMin ≤ onMains.cc.setpoint ∧ onMains.cc.setpoint ≤ onMains.cfg .vbusMax :=
  ⟨rfl, by decide +kernel, by decide +kernel⟩

/-- The queue of `queued` with room for one more, slots 6 and 7 in STANDBY, 6 passed over and 7 not. -/
def filling : State :=
  let s := State.onMod (State.onMod queued 6 fun m => { m with service := .standby, skip := true }) 7 fun m => { m with service := .standby }
  State.tuned s .minRunModules 5

theorem witness_DemandEvaluationFormsTheNeed_queue :
    filling.startStep = .running ∧ QueueOfStandby filling ∧ filling.rc.walkTimer = none ∧ (demandEval filling).rc.nNeed = 5 ∧
    filling.onCount = 2 := by
  unfold QueueOfStandby
  decide +kernel

/-- The unmarked slot 7 is queued before slot 6, and the head starts (R84, R85). -/
theorem test_queue_is_filled_and_its_head_starts :
    (demandEval filling).rc.queue = [2, 7] ∧ ((demandEval filling).mod 3).service = .starting ∧ (demandEval filling).rc.walkTimer = some 5 := by
  decide +kernel

/-- On MAINS, slot 0 RUNNING with a dropout watch and slot 1 STARTING, each a second before its time. -/
def expiring : State :=
  State.onMod (State.onMod onMains 0 fun m => { m with dropout := some 14 }) 1 fun m => { m with timeIn := 14 }

theorem witness_StartMismatchIsReported :
    (((slotPrefix 1 calmPeriod expiring).mod 1).service = .starting ∧
      expiring.cfg .startWindowS ≤ ((slotPrefix 1 calmPeriod expiring).mod 1).timeIn) ∧
    ((slotPrefix 0 calmPeriod expiring).mod 0).service = .running ∧ ((slotPrefix 0 calmPeriod expiring).mod 0).dropout = some 15 ∧
    expiring.cfg .startWindowS ≤ 15 := by decide +kernel

/-- The same with slots 2, 3 and 4 in STANDBY, and MODULE-MISMATCH of class RECOVER in ACTIVE with no slot marked. -/
def mismatching : State :=
  let rested (m : Module) : Module := { m with service := .standby }
  (State.detAt (State.onMod (State.onMod (State.onMod expiring 2 rested) 3 rested) 4 rested) 14 .active 1).withTable
    (expiring.ss.table.set (.det 14 .cls) 2)

theorem witness_StartMismatchIsReported_action :
    (let x := slotPrefix 1 calmPeriod mismatching
     (x.mod 1).service = .starting ∧ mismatching.cfg .startWindowS ≤ (x.mod 1).timeIn ∧ QueueOfStandby x ∧ (x.mod 4).service = .standby ∧
      (x.mod 4).skip = false ∧ ((slotSeconds 2 (rcCount (periodOutage calmPeriod mismatching))).mod 4).service = .standby ∧
      ((slotSeconds 2 (rcCount (periodOutage calmPeriod mismatching))).mod 4).skip = false) ∧
    (let x := slotPrefix 0 calmPeriod mismatching
     x.actionOf 14 = true ∧ x.marked 14 0 = false ∧ (x.detCfg 14).cls = .recover ∧ (x.mod 0).service = .running) := by
  unfold QueueOfStandby
  decide +kernel

/-- A dropout under RECOVER goes on to RESTING with its skip mark; without the action the module stands in STANDBY (R89, R92). -/
theorem test_mismatch_rests_or_stands :
    ((slotSeconds 1 (rcCount (periodOutage calmPeriod mismatching))).mod 0).service = .resting ∧
    ((slotSeconds 1 (rcCount (periodOutage calmPeriod mismatching))).mod 0).skip = true ∧
    ((slotSeconds 1 (rcCount (periodOutage calmPeriod (State.detAt mismatching 14 .clear 0)))).mod 0).service = .standby := by decide +kernel

/-- Slot 4 STOPPING and ON at its stop check, slot 5 RESTING at the end of its rest. -/
def settling : State :=
  let s := State.onMod (State.onMod onMains 4 fun m => { m with service := .stopping, stopCheck := true, timeIn := 9 }) 5
    fun m => { m with service := .resting, timeIn := 299 }
  s.setLink 4 ⟨0, true, some ⟨.on, 10, 30, 0⟩, none, 0, 0, none⟩

theorem witness_StopCheckAndRestExpire :
    (((slotPrefix 4 calmPeriod settling).mod 4).service = .stopping ∧ ((slotPrefix 4 calmPeriod settling).mod 4).stopCheck = true ∧
      10 ≤ ((slotPrefix 4 calmPeriod settling).mod 4).timeIn ∧ settling.presentOutput 4 = some .on) ∧
    ((slotPrefix 5 calmPeriod settling).mod 5).service = .resting ∧
    settling.cfg .recoverWait * 60 ≤ ((slotPrefix 5 calmPeriod settling).mod 5).timeIn ∧
    ((slotPrefix 5 calmPeriod settling).mod 5).fault = none ∧
    (let s := State.onMod settling 5 fun m => { m with fault := some 2 }
     ((slotPrefix 5 calmPeriod s).mod 5).service = .resting ∧ s.cfg .recoverWait * 60 ≤ ((slotPrefix 5 calmPeriod s).mod 5).timeIn ∧
      ((slotPrefix 5 calmPeriod s).mod 5).fault.isSome = true) := by
  decide +kernel

theorem test_faulted_rest_begins_again :
    let t := periodStep calmPeriod (State.onMod settling 5 fun m => { m with fault := some 2 })
    (t.mod 5).service = .resting ∧ (t.mod 5).timeIn = 0 := by decide +kernel

/-- A rest that ends while a module is wanted: out of RESTING, and started by the demand evaluation (R92, R81, R85). -/
theorem test_rest_ends : ((periodStep calmPeriod settling).mod 5).service = .starting := by decide +kernel

/-- The removal hold and the walk-in timer a second before their ends, slots 3 and 2 queued, two modules needed. -/
def timed : State := { queued with rc := { queued.rc with removal := some 599, walkTimer := some 1, nNeed := 3 } }

theorem witness_RemovalAndWalkIn :
    (timed.startStep = .running ∧ (rcSlots (periodOutage calmPeriod timed)).rc.removal = some 600 ∧ timed.cfg .removeHoldMin * 60 ≤ 600 ∧
      ((rcSlots (periodOutage calmPeriod timed)).mod 0).service = .running ∧
      ∀ j : Slot, ((rcSlots (periodOutage calmPeriod timed)).mod j).service = .running →
        ((rcSlots (periodOutage calmPeriod timed)).mod j).runMinutes < ((rcSlots (periodOutage calmPeriod timed)).mod 0).runMinutes ∨
        ((rcSlots (periodOutage calmPeriod timed)).mod j).runMinutes = ((rcSlots (periodOutage calmPeriod timed)).mod 0).runMinutes ∧
          j ≤ 0) ∧
    (rcRemoval (periodOutage calmPeriod { timed with rc := { timed.rc with removal := none } })).rc.walkTimer = some 0 := by
  decide +kernel

theorem witness_RemovalAndWalkIn_start :
    let t := rcRemoval (periodOutage calmPeriod { timed with rc := { timed.rc with removal := none } })
    t.rc.queue = [3, 2] ∧ t.onCount < t.rc.nNeed ∧ QueueOfStandby t := by
  unfold QueueOfStandby
  decide +kernel

/-- On MAINS, slots 2 and 3 in STANDBY, slot 0 RUNNING with some run minutes, the rotation a minute away. -/
def rotating (minutes : Nat) : State :=
  let s := State.onMod queued 0 fun m => { m with runMinutes := minutes }
  { s with rc := { s.rc with rotation := 1 } }

theorem witness_RotationEventMakesASwap :
    ((minuteRun (rotating 1441)).rc.rotation ≤ 1 ∧ (minuteRun (rotating 1441)).sc.source = .mains ∧ (minuteRun (rotating 1441)).rc.swap = none ∧
      QueueOfStandby (minuteRun (rotating 1441)) ∧ ((minuteRun (rotating 1441)).mod 0).service = .running ∧ ((minuteRun (rotating 1441)).mod 2).service = .standby ∧
      (∀ j : Slot, ((minuteRun (rotating 1441)).mod j).service = .running →
        ((minuteRun (rotating 1441)).mod j).runMinutes < ((minuteRun (rotating 1441)).mod 0).runMinutes ∨
        ((minuteRun (rotating 1441)).mod j).runMinutes = ((minuteRun (rotating 1441)).mod 0).runMinutes ∧ j ≤ 0) ∧
      (∀ j : Slot, ((minuteRun (rotating 1441)).mod j).service = .standby →
        ((minuteRun (rotating 1441)).mod 2).runMinutes < ((minuteRun (rotating 1441)).mod j).runMinutes ∨
        ((minuteRun (rotating 1441)).mod 2).runMinutes = ((minuteRun (rotating 1441)).mod j).runMinutes ∧ 2 ≤ j)) ∧
    (minuteRun { rotating 1441 with sc := awake.sc }).rc.rotation ≤ 1 ∧ (minuteRun { rotating 1441 with sc := awake.sc }).sc.source ≠ .mains := by
  unfold QueueOfStandby
  decide +kernel

/-- Readings of a mains at 100 V. -/
def lowMains : Readings := periodWith 7 (same 100)

/-- The mains a second before its fail, a swap in flight. -/
def swapFailing : State := { swapping 3 with sc := { (swapping 3).sc with mains := .failing, mainsCount := 1 } }

theorem witness_RotationEventMakesASwap_ends :
    ((slotPrefix 1 calmPeriod (swapping 14)).rc.swap = some (0, 1) ∧ SwapRight (slotPrefix 1 calmPeriod (swapping 14)) ∧
      (swapping 14).cfg .startWindowS ≤ ((slotPrefix 1 calmPeriod (swapping 14)).mod 1).timeIn) ∧
    (FreeRequest reqHoldModule .craft (frameFor reqHoldModule 1 []) (swapping 3) ∧ slotOf (frameFor reqHoldModule 1 []).index.toNat = 1 ∧
      FreeRequest reqHoldModule .craft (frameFor reqHoldModule 0 []) (swapping 3) ∧ slotOf (frameFor reqHoldModule 0 []).index.toNat = 0 ∧
      (swapping 3).rc.swap = some (0, 1) ∧ SwapRight (swapping 3)) ∧
    (periodRc lowMains swapFailing).rc.swap = some (0, 1) ∧ SwapRight (periodRc lowMains swapFailing) ∧
    (periodSupply lowMains swapFailing).sc.source ≠ swapFailing.sc.source :=
  ⟨⟨by decide +kernel, swap_right_of 0 1, by decide +kernel⟩, ⟨free_request _ _ _ _, by decide +kernel, free_request _ _ _ _, by decide +kernel,
    by decide +kernel, swap_right_of 0 1⟩, by decide +kernel, swap_right_of 0 1, by decide +kernel⟩

/-- The rotation margin of 24 hours must be exceeded (R95). -/
theorem test_rotation_margin :
    (minuteStep (rotating 1441)).rc.swap = some (0, 2) ∧ (minuteStep (rotating 1440)).rc.swap = none := by decide +kernel

/-! ### Supply transfer and the generator sequence -/

/-- The mains FAILING for one second. -/
def failing : State := { onMains with sc := { onMains.sc with mains := .failing, mainsCount := 1 } }

/-- The mains RETURNING for a second less than its return time, the set cranking. -/
def returning : State := { awake with sc := { awake.sc with mains := .returning, mainsCount := 299, startUp := false, seq := seqAt .cranking } }

theorem witness_MainsStateMoves :
    (failing.sc.startUp = false ∧ (periodRc lowMains failing).mainsGood = false ∧ failing.sc.mains = .failing ∧
      failing.cfg .mainsFailS ≤ failing.sc.mainsCount + 1) ∧
    (returning.sc.startUp = false ∧ (periodRc calmPeriod returning).mainsGood = true ∧ returning.sc.mains = .returning ∧
      returning.cfg .mainsReturnMin * 60 ≤ returning.sc.mainsCount + 1 ∧ returning.sc.seq.state = .cranking ∧
      0 < returning.cfg .outageDelayMin) := by decide +kernel

theorem test_mains_fail : (periodStep lowMains failing).sc.mains = .down ∧ (periodStep lowMains failing).sc.mc.closed = false := by
  decide +kernel
theorem test_mains_return : (periodStep calmPeriod returning).sc.mains = .up := by decide +kernel

theorem witness_StartUpPeriodAndStopPulseEnd :
    (let s := { awake with sc := { awake.sc with startCount := 9 } }; s.sc.startUp = true ∧ s.startStep = .running ∧ 9 ≤ s.sc.startCount) ∧
    (let s := State.engine awake { seqAt .off with stopPulse := 1, stop := true }
     s.sc.seq.stopPulse = 1 ∧ s.sc.seq.state = .off ∧ s.sc.transferring .toGenerator = false ∧
      (completePeriod calmPeriod s).running = some false ∧
      (completePeriod (periodInput inRunning) (State.sees s inRunning)).running ≠ some false) := by decide +kernel

theorem witness_BreakPhaseEndsInMake :
    (breaking.sc.transfer = some (.toMains, .brk) ∧ (breaking.sc.contactor Direction.toMains.opening).openMs = some 1000 ∧
      breaking.cfg .breakMs ≤ 1000 + 0 ∧ breaking.sc.inhibit = false ∧ (breaking.sc.contactor Direction.toMains.opening).closed = false ∧
      (breaking.sc.contactor Direction.toMains.closing).closed = false) ∧
    (let s := { breaking with sc := { breaking.sc with gc := { breaking.sc.gc with openMs := some 500 } } }
     s.sc.transfer = some (.toMains, .brk) ∧ (s.sc.contactor Direction.toMains.opening).openMs = some 500 ∧ 500 + 499 < s.cfg .breakMs ∧
       s.cfg .breakMs ≤ 500 + 500) := by decide +kernel

/-- The mains UP with both contactors OPEN, the sequence in a state, GC's auxiliary open for some time. -/
def unclosed (st : SeqState) (openMs : Option Nat) (age : Nat) : State :=
  { awake with sc := { awake.sc with
    mains := .up, startUp := false, mc := ⟨false, age, none, false⟩, gc := ⟨false, age, openMs, false⟩, seq := seqAt st } }

theorem witness_BreakPhaseEndsInMake_closure :
    (∀ ms ∈ [some 0, none], let x := closureNow calmPeriod (unclosed .off ms 9)
      x.sc.mains = .up ∧ x.sc.mc.closed = false ∧ x.sc.gc.closed = false ∧ x.sc.transfer = none ∧ x.sc.inhibit = false ∧
        ¬(x.sc.seq.state = .warmUp ∧ x.sc.seq.warmDone = true ∧ x.loadCalled = true) ∧
        (x.sc.gc.openMs.any fun n => x.cfg .breakMs ≤ n) = ms.isSome) ∧
    (closureNow lowMains (unclosed .off none 9)).sc.mains ≠ .up ∧
    (∀ st ∈ [SeqState.off, .stopping, .lockedOut], let s := unclosed st none 9
      s.sc.seq.state = st ∧ s.sc.transfer = none ∧ s.sc.mc.closed = false ∧ s.sc.gc.closed = false ∧ s.sc.inhibit = false ∧
        (periodSupply calmPeriod s).sc.mains = .up) ∧
    (2 ≤ (unclosed .off none 1).sc.mc.age + 1 ∧ ¬2 ≤ (unclosed .off none 0).sc.mc.age + 1 ∧
      (periodInput inMcAux).inputs[9] ≠ (unclosed .off none 1).sc.mc.closed) ∧
    (¬(failing.sc.startUp = true ∧ failing.startStep ≠ .running) ∧ (periodRc lowMains failing).mainsGood = false ∧
      failing.cfg .mainsFailS ≤ failing.sc.mainsCount + 1 ∧ lowMains.inputs[9] ≠ failing.sc.mc.closed) := by decide +kernel

/-- The mains closure begins TO-MAINS where both contactors are OPEN, in MAKE once GC's auxiliary has been open for BREAK_MS (R105, R106). -/
theorem test_mains_closure :
    (periodStep calmPeriod (unclosed .off (some 0) 9)).sc.transfer = some (.toMains, .mk) ∧
    (periodStep calmPeriod (unclosed .off none 9)).sc.transfer = some (.toMains, .brk) ∧
    (periodStep lowMains (unclosed .off none 9)).sc.transfer = none := by decide +kernel

/-- A contactor's auxiliary is judged from the command's second evaluation on (R107). -/
theorem test_mismatch_needs_two_seconds :
    (periodStep (periodInput inGcAux) (unclosed .off none 1)).sc.gc.mismatch = true ∧
    (periodStep (periodInput inGcAux) (unclosed .off none 0)).sc.gc.mismatch = false := by decide +kernel

/-- A BREAK phase TO-MAINS whose opening auxiliary has been open for some milliseconds at the latest evaluation, and some more have been told. -/
def waiting (openMs told : Nat) (inhibit : Bool) : State :=
  { breaking with sc := { breaking.sc with gc := { breaking.sc.gc with openMs := some openMs }, sinceEval := told, inhibit := inhibit } }

/-- The same under the inhibit of detector 20, LATCHED. -/
def inhibited (openMs told : Nat) : State :=
  let s := waiting openMs told true
  State.detAt (s.withSs { s.ss with table := s.ss.table.set (.det 20 .cls) 3 }) 20 .latched 0

/-- BREAK_MS written as 500. -/
def shorterBreak : Frame := frameFor reqSetSetting 43 [0, 0, 0, 1, 244]

theorem witness_BreakPhaseEndsInMake_at_a_request :
    (let s := waiting 400 100 false
     FreeRequest reqSetSetting .craft shorterBreak s ∧ s.sc.transfer = some (.toMains, .brk) ∧
      (s.sc.contactor Direction.toMains.opening).openMs = some 400 ∧ (s.sc.contactor Direction.toMains.opening).closed = false ∧
      (s.sc.contactor Direction.toMains.closing).closed = false ∧ settingOf shorterBreak.index.toNat shorterBreak.args = some (.plain .breakMs) ∧
      s.sc.inhibit = false ∧ max 500 (min 5000 (int32 0 0 1 244).toNat) ≤ 400 + s.sc.sinceEval) ∧
    (let s := inhibited 600 400
     FreeRequest reqReleaseDetector .craft (frameFor reqReleaseDetector 20 []) s ∧ (s.det 20).state = .latched ∧ s.condition 20 = false ∧
      s.actionOf 20 = true ∧ s.cfg .breakMs ≤ 600 + s.sc.sinceEval) :=
  ⟨⟨free_request _ _ _ _, by decide +kernel⟩, free_request _ _ _ _, by decide +kernel⟩

/-- BREAK ends at the write of BREAK_MS and at the clearing of the inhibit, and not a millisecond before (R106). -/
theorem test_break_ends_at_a_request :
    (takeFor reqSetSetting .craft shorterBreak (waiting 400 100 false)).sc.transfer = some (.toMains, .mk) ∧
    (takeFor reqSetSetting .craft shorterBreak (waiting 400 99 false)).sc.transfer = some (.toMains, .brk) ∧
    (takeFor reqReleaseDetector .craft (frameFor reqReleaseDetector 20 []) (inhibited 600 400)).sc.transfer = some (.toMains, .mk) ∧
    (takeFor reqReleaseDetector .craft (frameFor reqReleaseDetector 20 []) (inhibited 600 399)).sc.transfer = some (.toMains, .brk) := by
  decide +kernel

/-- The milliseconds told under the inhibit stand until the next evaluation (notes/assumptions/6.md). -/
theorem test_time_told_under_inhibit_stands :
    (endBreak (tellTime 400 (waiting 600 0 true))).sc.sinceEval = 400 ∧ (openTimes (waiting 600 400 true)).sc.sinceEval = 0 := by
  decide +kernel

/-- A part whose run requests call for load, the sequence at a state for some seconds. -/
def wanting (ind : Indications) (q : Machine.Seq) : State :=
  let s := State.engine (State.tuned awake .genMode 2) q
  { s with rqu := { s.rqu with ind := ind }, sc := { s.sc with startUp := false } }

/-- An on-load request beside a mains failure. -/
def loadWanted : Indications := ⟨true, false, true, false⟩

/-- A sequence state after some seconds. -/
def seqFor (st : SeqState) (seconds : Nat) : Machine.Seq := { seqAt st with seconds := seconds }

theorem witness_CrankingStatesExpire :
    (let s := wanting loadWanted (seqFor .preStart 4)
     (timedNow calmPeriod s).faultLevel ≠ some true ∧ s.sc.transferring .toGenerator = false ∧ (timedNow calmPeriod s).running ≠ some true ∧
      (timedNow calmPeriod s).workWanted = true ∧ s.cfg .prestartS ≤ (timedNow calmPeriod s).sc.seq.seconds) ∧
    (let s := wanting loadWanted { seqFor .cranking 9 with attempts := 2 }
     (timedNow calmPeriod s).running ≠ some true ∧ (timedNow calmPeriod s).workWanted = true ∧
      s.cfg .crankS ≤ (timedNow calmPeriod s).sc.seq.seconds ∧ s.sc.seq.attempts < s.sc.seq.limit) ∧
    (let s := wanting loadWanted { seqFor .cranking 9 with attempts := 3 }
     (timedNow calmPeriod s).running ≠ some true ∧ (timedNow calmPeriod s).workWanted = true ∧
      s.cfg .crankS ≤ (timedNow calmPeriod s).sc.seq.seconds ∧ ¬s.sc.seq.attempts < s.sc.seq.limit) ∧
    (let s := wanting loadWanted (seqFor .crankRest 14)
     (timedNow calmPeriod s).running ≠ some true ∧ (timedNow calmPeriod s).workWanted = true ∧
      s.cfg .restS ≤ (timedNow calmPeriod s).sc.seq.seconds) ∧
    (let s := State.sees (wanting loadWanted (seqFor .cranking 3)) inRunning
     (timedNow (periodInput inRunning) s).running = some true ∧ (timedNow (periodInput inRunning) s).faultLevel ≠ some true ∧
      0 < s.cfg .warmupS) := by decide +kernel

theorem test_last_crank_ends_in_lock_out :
    let t := periodStep calmPeriod (wanting loadWanted { seqFor .cranking 9 with attempts := 3 })
    t.sc.seq.state = .lockedOut ∧ t.sc.seq.failStart = true := by decide +kernel

/-- At hold-off 1, which the evaluation takes to 0, every condition of R110 holds; at 2 it is the only one that fails. -/
theorem witness_CrankingStatesExpire_entry :
    (let s := wanting loadWanted { seqAt .off with holdOff := 1 }
     s.sc.transferring .toGenerator = false ∧
     (let x := timedNow calmPeriod s
      x.sc.ind.start = true ∧ x.workWanted = true ∧ x.sc.startUp = false ∧ x.sc.seq.holdOff = 0 ∧ x.sc.seq.stop = false ∧
        x.running = some false ∧ x.faultLevel = some false ∧ x.sc.lockOut = false)) ∧
    (timedNow calmPeriod (wanting loadWanted { seqAt .off with holdOff := 2 })).sc.seq.holdOff = 1 ∧
    (State.tuned (wanting loadWanted (seqAt .off)) .prestartS 0).cfg .prestartS = 0 := by decide +kernel

theorem test_start_enters_pre_start_or_cranking :
    (periodStep calmPeriod (wanting loadWanted { seqAt .off with holdOff := 1 })).sc.seq.state = .preStart ∧
    (periodStep calmPeriod (State.tuned (wanting loadWanted (seqAt .off)) .prestartS 0)).sc.seq.state = .cranking := by decide +kernel

/-- A running engine whose sequence is at a state. -/
def turning (ind : Indications) (q : Machine.Seq) : State := State.sees (wanting ind q) inRunning

/-- Quiet readings with the engine running. -/
def turningPeriod : Readings := periodInput inRunning

theorem witness_WarmUpQualifiesTheGenerator :
    (let s := turning loadWanted { seqFor .warmUp 119 with qualWait := 298 }
     s.sc.seq.state = .warmUp ∧ s.sc.transferring .toGenerator = false ∧ (timedNow turningPeriod s).running = some true ∧
      (timedNow turningPeriod s).faultLevel = some false ∧ s.sc.seq.warmDone = false ∧ (timedNow turningPeriod s).workWanted = true ∧
      s.cfg .warmupS ≤ (timedNow turningPeriod s).sc.seq.seconds ∧ s.sc.seq.qualWait < 299) ∧
    (let s := turning ⟨true, false, false, true⟩ (seqFor .warmUp 119)
     (timedNow turningPeriod s).loadCalled = false ∧ (timedNow turningPeriod s).workWanted = true) ∧
    (let u := turning loadWanted { seqFor .warmUp 130 with warmDone := true }
     let s := { u with sc := { u.sc with genGood := 9 } }
     s.sc.seq.warmDone = true ∧ (timedNow turningPeriod s).loadCalled = true ∧ s.sc.inhibit = false ∧
      s.cfg .genQualS ≤ (timedNow turningPeriod s).sc.genGood ∧ ((timedNow turningPeriod s).input inGcAux).level ≠ some true) ∧
    (let s := turning loadWanted { seqFor .warmUp 900 with warmDone := true, qualWait := 299 }
     (timedNow turningPeriod s).loadCalled = true ∧ (timedNow turningPeriod s).sc.genGood < s.cfg .genQualS ∧ 299 ≤ s.sc.seq.qualWait ∧
      (timedNow turningPeriod s).running = some true ∧ (timedNow turningPeriod s).faultLevel = some false) := by decide +kernel

/-- A transfer TO-GENERATOR in a phase, the engine running, the GC auxiliary at a level. -/
def taking (ind : Indications) (phase : Phase) (aux : Bool) : State :=
  let u := turning ind { seqFor .warmUp 130 with warmDone := true, runSec := some 20 }
  let s := { u with sc := { u.sc with transfer := some (.toGenerator, phase), gc := { u.sc.gc with closed := phase == .mk } } }
  if aux then State.sees s inGcAux else s

/-- Quiet readings with the engine running and the GC auxiliary closed. -/
def takenPeriod : Readings := { turningPeriod with inputs := turningPeriod.inputs.set inGcAux true }

theorem witness_WarmUpQualifiesTheGenerator_transfer :
    (let s := taking loadWanted .mk true
     s.sc.seq.state = .warmUp ∧ s.sc.seq.warmDone = true ∧ s.sc.transferring .toGenerator = true ∧
      (timedNow takenPeriod s).running = some true ∧ (timedNow takenPeriod s).faultLevel ≠ some true ∧
      (timedNow takenPeriod s).loadCalled = true ∧ s.sc.gc.closed = true ∧ s.sc.mc.closed = false ∧
      ((completePeriod takenPeriod s).input 10).level = some true) ∧
    (let s := taking loadWanted .mk false
     (timedNow turningPeriod s).loadCalled = true ∧ ((completePeriod turningPeriod s).input 10).level ≠ some true) ∧
    (let s := taking ⟨true, false, false, true⟩ .brk false
     s.sc.transferring .toGenerator = true ∧ (timedNow turningPeriod s).loadCalled = false ∧ (timedNow turningPeriod s).sc.ind.idle = true) ∧
    (let s := taking .nothing .mk false
     (timedNow turningPeriod s).loadCalled = false ∧ (timedNow turningPeriod s).sc.ind.idle = false ∧
      (timedNow turningPeriod s).sc.seq.minElapsed = false ∧ (timedNow turningPeriod s).sc.seq.runSec ≠ none) ∧
    (let s := State.engine (taking .nothing .mk false) { seqFor .warmUp 130 with warmDone := true }
     (timedNow turningPeriod s).running = some true ∧ (timedNow turningPeriod s).sc.seq.runSec = none) := by decide +kernel

/-- The MAKE phase ends in ON-LOAD on GENERATOR; load no longer called opens GC (R106, R113, R119). -/
theorem test_make_ends_on_load :
    (periodStep takenPeriod (taking loadWanted .mk true)).sc.seq.state = .onLoad ∧
    (periodStep takenPeriod (taking loadWanted .mk true)).sc.source = .generator ∧
    (periodStep turningPeriod (taking .nothing .mk false)).sc.gc.closed = false := by decide +kernel

theorem witness_RunCoolDownAndStop_transfer :
    (let s := taking loadWanted .mk true
     (timedNow calmPeriod s).running ≠ some false ∧
     (let u := { s with mu := calmMu }
      u.sc.transferring .toGenerator = true ∧ (timedNow calmPeriod u).running = some false ∧ (timedNow calmPeriod u).faultLevel = some false ∧
       u.sc.seq.state = .warmUp)) ∧
    (let s := State.sees (taking loadWanted .brk false) inFault
     s.sc.transferring .toGenerator = true ∧ (timedNow (periodInput inFault) s).faultLevel = some true ∧ s.sc.seq.state ≠ .off ∧
      s.sc.seq.state ≠ .lockedOut) := by decide +kernel

theorem witness_RunCoolDownAndStop :
    (let s := turning loadWanted { seqFor .onLoad 2000 with runSec := some 1799 }
     s.sc.transferring .toGenerator = false ∧ (timedNow turningPeriod s).running = some true ∧
      (timedNow turningPeriod s).faultLevel = some false ∧ (timedNow turningPeriod s).loadCalled = true ∧
      s.sc.seq.minElapsed = false ∧ s.sc.seq.runSec = some 1799 ∧ s.cfg .minrunMin * 60 ≤ min 65535 (1799 + 1)) ∧
    (let s := turning .nothing (seqFor .coolDown 179)
     (timedNow turningPeriod s).workWanted = false ∧ s.cfg .cooldownS ≤ (timedNow turningPeriod s).sc.seq.seconds ∧
      (timedNow turningPeriod s).running = some true ∧ (timedNow turningPeriod s).faultLevel = some false) ∧
    (let s := wanting .nothing (seqFor .stopping 3)
     (timedNow calmPeriod s).faultLevel ≠ some true ∧ (timedNow calmPeriod s).running = some false) ∧
    (let s := turning .nothing (seqFor .stopping 29)
     (timedNow turningPeriod s).running ≠ some false ∧ 30 ≤ (timedNow turningPeriod s).sc.seq.seconds ∧ s.sc.seq.failStop = false ∧
      s.sc.seq.stopPulse ≠ 1) ∧
    (let s := State.sees (wanting loadWanted (seqFor .preStart 2)) inFault
     (timedNow (periodInput inFault) s).faultLevel = some true ∧ s.sc.seq.state ≠ .off ∧ s.sc.seq.state ≠ .lockedOut) := by decide +kernel

/-- ON-LOAD with its minimum run elapsed. -/
def loaded (ind : Indications) : State :=
  let s := turning ind { seqFor .onLoad 2000 with runSec := some 1800, minElapsed := true }
  { s with sc := { s.sc with gc := ⟨true, 9, none, false⟩ } }

theorem witness_RunCoolDownAndStop_unload :
    (let s := loaded .nothing
     (timedNow turningPeriod s).running = some true ∧ (timedNow turningPeriod s).faultLevel = some false ∧ s.sc.seq.state = .onLoad ∧
      (timedNow turningPeriod s).loadCalled = false ∧ (timedNow turningPeriod s).sc.seq.minElapsed = true ∧
      (timedNow turningPeriod s).sc.mains ≠ .up ∧ (timedNow turningPeriod s).sc.ind.idle = false) ∧
    (let s := { loaded .nothing with sc := { (loaded .nothing).sc with mains := .up } }
     (timedNow turningPeriod s).sc.mains = .up ∧ (timedNow turningPeriod s).sc.inhibit = false ∧ (timedNow turningPeriod s).sc.transfer = none) ∧
    (let s := { loaded ⟨true, false, false, true⟩ with sc := { (loaded ⟨true, false, false, true⟩).sc with mains := .up, inhibit := true } }
     (timedNow turningPeriod s).sc.mains = .up ∧ (timedNow turningPeriod s).sc.inhibit = true ∧ (timedNow turningPeriod s).sc.ind.idle = true ∧
      (timedNow turningPeriod s).loadCalled = false) := by decide +kernel

theorem witness_RunCoolDownAndStop_stall :
    (let s := wanting loadWanted { seqFor .warmUp 9 with attempts := 2 }
     (timedNow calmPeriod s).running = some false ∧ (timedNow calmPeriod s).faultLevel = some false ∧ s.sc.seq.state = .warmUp ∧
      s.sc.seq.attempts < s.sc.seq.limit) ∧
    (let s := wanting loadWanted { seqFor .onLoad 9 with attempts := 3 }
     (timedNow calmPeriod s).running = some false ∧ ¬s.sc.seq.attempts < s.sc.seq.limit) ∧
    (wanting loadWanted (seqFor .coolDown 9)).sc.seq.state = .coolDown := by decide +kernel

theorem test_stall_and_unload :
    (periodStep calmPeriod (wanting loadWanted { seqFor .onLoad 9 with attempts := 3 })).sc.seq.state = .lockedOut ∧
    (periodStep turningPeriod (loaded .nothing)).sc.seq.state = .coolDown ∧ (periodStep turningPeriod (loaded .nothing)).sc.gc.closed = false := by
  decide +kernel

/-! ### Run requests, the schedule and the fuel account -/

theorem witness_OutageAndServedMinutes :
    { awake with rqu := { awake.rqu with outage := some 1 } }.rqu.outage = some 1 ∧
    request .portRun (.port .craft) ∈ scheduled.rqu.reqs ∧ (request .portRun (.port .craft)).minMinutes = some 15 ∧
    15 ≤ (if (request .portRun (.port .craft)).isServed then min 65535 ((request .portRun (.port .craft)).served + 1) else 0) ∧
    RequestsDistinct scheduled ∧ scheduled.clk.isSet = false :=
  ⟨rfl, by decide +kernel, rfl, by decide, witness_ScheduleAndRequestsStayRight.2.1, rfl⟩

theorem test_outage_timer_creates_mains_fail :
    (periodStep calmPeriod { awake with rqu := { awake.rqu with outage := some 1 } }).rqu.reqs.map RunReq.reason = [.mainsFail] := by
  decide +kernel

theorem witness_RequestEvaluationFormsTheIndications :
    (awake.sc.source = .none ∧ (updateStep awake).lowestSoc = 500 ∧ (updateStep awake).lowestSoc ≤ awake.cfg .lowPm ∧
      (updateStep awake).lowestSoc < awake.cfg .recoverPm) ∧
    (let s := { onMains with rqu := { onMains.rqu with reqs := [request .batteryLow .internal] } }
     s.sc.source = .mains ∧ s.sc.seq.state = .off) := by decide +kernel

/-- The worked burn of chapter 7: 15 and 40 at a cap of 4 with three modules RUNNING is 33; 33 and a residue of 33 take one unit and leave 6. -/
theorem test_worked_burn :
    let run (m : Module) : Module := { m with service := .running }
    let s := State.onMod (State.onMod (State.onMod (turning loadWanted (seqFor .onLoad 9)) 0 run) 1 run) 2 run
    let t := burnStep { s with rqu := { s.rqu with fuel := 1000, residue := 33 } }
    (t.rqu.burnRate, t.rqu.fuel, t.rqu.residue) = (33, 999, 6) := by decide +kernel

theorem witness_FuelBurnsAndReconciles :
    (turning loadWanted (seqFor .onLoad 9)).running = some true ∧ State.reset.running = none ∧ (State.reset.analog 11).usable = none ∧
    (let s := { awake with rqu := { awake.rqu with reconcileDue := false, reconcileCount := 13 } }
     s.running = some false ∧ (s.analog 11).usable = some ((300 : Nat) : Int) ∧ s.rqu.reconcileDue = false ∧ s.rqu.reconcileCount < 14) ∧
    (let s := { awake with rqu := { awake.rqu with reconcileDue := false, reconcileCount := 14, lastReading := some 999, fuel := 1100 } }
     s.running = some false ∧ (s.analog 11).usable = some ((300 : Nat) : Int) ∧ 14 ≤ s.rqu.reconcileCount ∧
      999 + s.cfg .tankL * s.cfg .refuelStepPct / 10 < 300 * s.cfg .tankL / 100) := by decide +kernel

/-- One request frame held at every port in a site hold. -/
def held : State := { scheduled with pc := { scheduled.pc with siteHold := true } }

theorem witness_RunRequestsComeAndGo :
    (NewRequest reqRequestRun .telemetry (frameFor reqRequestRun 0 [0, 14]) awake ∧ awake.pc.siteHold = false ∧
      NewRequest reqRequestRun .telemetry (frameFor reqRequestRun 0 [1, 225]) held ∧ held.pc.siteHold = true) ∧
    (NewRequest reqCancelRun .telemetry (frameFor reqCancelRun 0 []) held ∧ NewRequest reqCancelRun .craft (frameFor reqCancelRun 0 []) held ∧
      (∃ x ∈ held.rqu.reqs, x.reason = .portRun ∧ x.origin = .port .craft) ∧
      NewRequest reqCancelRun .craft (frameFor reqCancelRun 0 []) awake ∧ awake.rqu.reqs = []) :=
  ⟨⟨new_request _ _ _ _, rfl, new_request _ _ _ _, rfl⟩,
   ⟨new_request _ _ _ _, new_request _ _ _ _, ⟨_, List.mem_cons_self, rfl, rfl⟩, new_request _ _ _ _, rfl⟩⟩

/-- A full schedule. -/
def crowded : State := { awake with rqu := { awake.rqu with schedule := (List.range 24).map (entry .exercise) } }

/-- An EXERCISE added on a day at minute 60. -/
def addOn (day : Nat) : Frame := frameFor reqAddScheduleEntry 0 [0, 0, day, 0, 60, 0, 59, 0, 10, 1]

theorem witness_ScheduleEntriesJoinAndLeave :
    (FreeRequest reqAddScheduleEntry .craft (addOn 0) scheduled ∧ (∃ x ∈ scheduled.rqu.schedule, x.kind = .exercise ∧ x.due = ⟨0, 60⟩) ∧
      kindOf 0#8 = some .exercise) ∧
    (FreeRequest reqAddScheduleEntry .craft (addOn 24) crowded ∧ 24 ≤ crowded.rqu.schedule.length ∧
      ∀ x ∈ crowded.rqu.schedule, ¬(x.kind = .exercise ∧ x.due = ⟨24, 60⟩)) ∧
    (FreeRequest reqAddScheduleEntry .craft (addOn 24) scheduled ∧ scheduled.rqu.schedule.length < 24) ∧
    FreeRequest reqRemoveScheduleEntry .craft (frameFor reqRemoveScheduleEntry 0 [1, 0, 0, 0, 60]) scheduled ∧
    FreeRequest reqRemoveScheduleEntry .craft (frameFor reqRemoveScheduleEntry 0 [2, 0, 0, 0, 60]) scheduled :=
  ⟨⟨free_request _ _ _ _, ⟨_, List.mem_cons_self, rfl, rfl⟩, rfl⟩, ⟨free_request _ _ _ _, by decide +kernel, by decide +kernel⟩,
   ⟨free_request _ _ _ _, by decide +kernel⟩, free_request _ _ _ _, free_request _ _ _ _⟩

theorem witness_ScheduleEntriesJoinAndLeave_kind :
    FreeRequest reqAddScheduleEntry .craft (frameFor reqAddScheduleEntry 0 [3, 0, 0, 0, 60, 0, 59, 0, 10, 1]) scheduled ∧
    FreeRequest reqRemoveScheduleEntry .craft (frameFor reqRemoveScheduleEntry 0 [3, 0, 0, 0, 60]) scheduled ∧
    3 ≤ (BitVec.ofNat 8 3).toNat := ⟨free_request _ _ _ _, free_request _ _ _ _, by decide⟩

theorem test_entry_joins_behind_its_equals :
    (insertEntry (entry .rotate 0) scheduled.rqu.schedule).map SchedEntry.kind = [.exercise, .boostCharge, .rotate] := by decide +kernel

/-- One entry due at day 40 minute 600 and repeated every day, the clock at day 43 minute 700 (R133's example). -/
def overdue (k : SchedKind) : State :=
  let e : SchedEntry := ⟨k, ⟨40, 600⟩, 1440, some 60, .craft, true⟩
  { onMains with rqu := { onMains.rqu with schedule := [e, { e with kind := .rotate, due := ⟨44, 0⟩ }] }, clk := ⟨43, 700, true⟩ }

theorem witness_ScheduleEntriesJoinAndLeave_due :
    (overdue .exercise).clk.isSet = true ∧
    (overdue .exercise).rqu.schedule = ⟨.exercise, ⟨40, 600⟩, 1440, some 60, .craft, true⟩ :: [⟨.rotate, ⟨44, 0⟩, 1440, some 60, .craft, true⟩] ∧
    (minuteStep (overdue .exercise)).clk = ⟨43, 701, true⟩ ∧ PlantTime.abs ⟨40, 600⟩ ≤ 43 * 1440 + 701 ∧
    43 * 1440 + 701 < PlantTime.abs ⟨44, 0⟩ ∧ scheduled.clk.isSet = false := by decide +kernel

theorem test_overdue_entry_is_put_back :
    (minuteStep (overdue .boostCharge)).rqu.schedule.map SchedEntry.due = [⟨44, 0⟩, ⟨44, 600⟩] ∧
    (minuteStep (overdue .boostCharge)).cc.mode = .boost ∧ (minuteStep (overdue .boostCharge)).cc.boostRemaining = some 60 := by
  decide +kernel

theorem witness_ResetFuelSetsTheAccount :
    FreeRequest reqResetFuel .craft (frameFor reqResetFuel 0 [0, 0, 15, 160]) awake ∧
    FreeRequest reqResetFuel .craft (frameFor reqResetFuel 0 [0, 0, 15, 161]) awake ∧ awake.cfg .tankL * 10 = 4000 :=
  ⟨free_request _ _ _ _, free_request _ _ _ _, by decide +kernel⟩

/-! ### Detectors, alarm relays and load shedding -/

/-- The mains lost on a running part, detector 1 HOLDING for nine seconds and detector 3 in ACTIVE. -/
def alarmed : State :=
  let s := State.detAt (State.detAt awake 1 .holding 9) 3 .active 1
  { s with sc := { s.sc with startUp := false, mainsLost := true } }

theorem witness_DetectorsMoveByTheTable :
    (alarmed.underProof 0 = false ∧ (takeInputs (periodSupply lowMains alarmed)).condition 0 = true ∧ (alarmed.det 0).state = .clear ∧
      (alarmed.detCfg 0).qualify ≤ 1) ∧
    (alarmed.underProof 1 = false ∧ (takeInputs (periodSupply lowMains alarmed)).condition 1 = false ∧ (alarmed.det 1).state = .holding ∧
      (alarmed.detCfg 1).hold ≤ (alarmed.det 1).count + 1) := by decide +kernel

theorem witness_DetectorsMoveByTheTable_atOnce :
    let s := (State.detAt awake 1 .active 5).withTable (awake.ss.table.set (.det 1 .hold) 0)
    s.underProof 1 = false ∧ (takeInputs (periodSupply calmPeriod s)).condition 1 = false ∧ (s.det 1).state = .active ∧
      (s.detCfg 1).hold = 0 ∧ (s.detCfg 1).cls ≠ .latch := by decide +kernel

/-- Detector 0 of class LATCH at a state, its condition seen present or absent by the latest evaluation; so is detector 1. -/
def latching (st : DetState) (seen : Bool) : State :=
  let s := alarmed.setDet 0 { alarmed.det 0 with state := st, seen := seen }
  (State.detAt s 1 st 0).withTable ((s.ss.table.set (.det 0 .cls) 3).set (.det 1 .cls) 3)

theorem witness_DetectorsMoveByTheTable_latched :
    (∀ seen : Bool, (latching .latched seen).underProof 0 = false ∧
      (takeInputs (periodSupply lowMains (latching .latched seen))).condition 0 = true ∧ ((latching .latched seen).det 0).state = .latched ∧
      ((latching .latched seen).det 0).seen = seen) ∧
    ((latching .active true).underProof 1 = false ∧ (takeInputs (periodSupply lowMains (latching .active true))).condition 1 = false ∧
      ((latching .active true).det 1).state = .active ∧ ((latching .active true).detCfg 1).cls = .latch) ∧
    (alarmed.underProof 3 = false ∧ (takeInputs (periodSupply calmPeriod alarmed)).condition 3 = false ∧ (alarmed.det 3).state = .active) := by
  decide +kernel

/-- The return of a LATCHED detector's condition is a new occurrence; its staying present is none (R144). -/
theorem test_latched_condition_returns :
    ((periodStep lowMains (latching .latched false)).det 0).unseen = ⟨true, true, true⟩ ∧
    ((periodStep lowMains (latching .latched true)).det 0).unseen = (alarmed.det 0).unseen := by decide +kernel

theorem test_bus_overvolt_latches : ((periodStep calmPeriod alarmed).det 3).state = .latched := by decide +kernel

/-- Detector 1 under proof, one second before it is PROVED. -/
def proving : State :=
  let s := State.detAt awake 1 .qualifying 4
  { s with du := { s.du with proof := some ⟨1, .craft, 5⟩ } }

theorem witness_ProofsAndReleases :
    (proving.du.proof = some ⟨1, .craft, 5⟩ ∧ (takeInputs (periodSupply calmPeriod proving)).condition 1 = false ∧
      (proving.det 1).state = .qualifying ∧ 5 ≤ (proving.det 1).count + 1) ∧
    (NewRequest reqProveDetector .craft (frameFor reqProveDetector 31 []) awake ∧
      NewRequest reqProveDetector .craft (frameFor reqProveDetector 32 []) awake ∧
      NewRequest reqProveDetector .telemetry (frameFor reqProveDetector 0 []) held ∧
      NewRequest reqProveDetector .craft (frameFor reqProveDetector 0 []) proving ∧
      NewRequest reqProveDetector .craft (frameFor reqProveDetector 3 []) alarmed ∧ (alarmed.det 3).state ≠ .clear) ∧
    (let s := State.detAt awake 3 .latched 0
     NewRequest reqReleaseDetector .craft (frameFor reqReleaseDetector 3 []) s ∧ (s.det 3).state = .latched ∧ s.condition 3 = false ∧
      NewRequest reqReleaseDetector .craft (frameFor reqReleaseDetector 32 []) s) :=
  ⟨by decide +kernel,
   ⟨new_request _ _ _ _, new_request _ _ _ _, new_request _ _ _ _, new_request _ _ _ _, new_request _ _ _ _, by decide +kernel⟩,
   new_request _ _ _ _, by decide +kernel, by decide +kernel, new_request _ _ _ _⟩

theorem witness_ProofsAndReleases_ends :
    (let s := State.detAt proving 1 .proved 5
     s.du.proof = some ⟨1, .craft, 5⟩ ∧ (takeInputs (periodSupply calmPeriod s)).condition 1 = false ∧ (s.det 1).state = .proved) ∧
    (let s := State.tuned proving .vbusMax 53400
     s.du.proof = some ⟨1, .craft, 5⟩ ∧ (takeInputs (periodSupply calmPeriod s)).condition 1 = true) := by decide +kernel

theorem test_proof_passes :
    ((periodStep calmPeriod (State.detAt proving 1 .proved 5)).port .craft).proofResult = some (1, false) ∧
    ((periodStep calmPeriod (State.tuned proving .vbusMax 53400)).det 1).state = .qualifying := by decide +kernel

/-- A bus at the disconnect voltage of S2, S1 open and S2 a second before its delay. -/
def sagging (follow : Option Nat) : State :=
  let s := State.reads awake 0 46000
  { s with shc := ⟨#v[⟨.openAuto, 40, false, none, 0⟩, ⟨.closed, 29, false, follow, 0⟩, .initial, .initial], 9⟩ }

/-- On MAINS at a bus of 50 V, S1 and S2 open for a second less than REC_DELAY. -/
def recovering : State :=
  let s := State.reads onMains 0 50000
  { s with shc := ⟨#v[⟨.openAuto, 0, false, none, 59⟩, ⟨.openAuto, 0, false, none, 59⟩, .initial, .initial], 1⟩ }

theorem witness_ShedStagesOpenAndClose :
    (let s := sagging none
     (stagePrefix 1 s).discCond 1 = true ∧ (stagePrefix 1 s).recCond 1 = false ∧ 0 < s.cfg .recDelay ∧
      ((stagePrefix 1 s).stage 1).state = .closed ∧ ((stagePrefix 1 s).stage 1).follow = none ∧
      s.cfg .shedDelay ≤ min 65535 (((stagePrefix 1 s).stage 1).discCount + 1) ∧
      ∀ j < (1 : Fin 4), (s.stage j).state ≠ .closed ∧ ((stagePrefix 1 s).stage j).state ≠ .closed) ∧
    (let s := sagging (some 1)
     (stagePrefix 1 s).discCond 1 = true ∧ ((stagePrefix 1 s).stage 1).follow = some 1 ∧
      ∀ j < (1 : Fin 4), (s.stage j).state ≠ .closed ∧ ((stagePrefix 1 s).stage j).state ≠ .closed) ∧
    (let s := recovering
     (stagePrefix 1 s).recCond 1 = true ∧ ((stagePrefix 1 s).stage 1).state = .openAuto ∧
      (∀ j : Fin 4, 1 < j → ((stagePrefix 1 s).stage j).state = .closed) ∧
      s.cfg .recDelay ≤ min 65535 (((stagePrefix 1 s).stage 1).recCount + 1) ∧ 2 ≤ (stagePrefix 1 s).shc.spacing) := by decide +kernel

/-- S1 a second before its delay, S2 waiting with a count below a SHED_DELAY raised since. -/
def following : State :=
  let s := State.reads awake 0 46000
  { s with shc := ⟨#v[⟨.closed, 29, false, none, 0⟩, ⟨.closed, 3, true, none, 0⟩, .initial, .initial], 9⟩ }

theorem witness_ShedStagesOpenAndClose_follow :
    (stagePrefix 1 following).discCond 1 = true ∧ ((stagePrefix 1 following).stage 1).state = .closed ∧
    ((stagePrefix 1 following).stage 1).waiting = true ∧ (following.stage 0).state = .closed ∧
    ((stagePrefix 1 following).stage 0).state ≠ .closed := by decide +kernel

theorem test_waiting_stage_takes_its_follow_time : ((updateStep following).stage 1).follow = some 2 := by decide +kernel

theorem test_stage_opens_and_stage_closes :
    ((updateStep (sagging none)).stage 1).state = .openAuto ∧ ((updateStep recovering).stage 1).state = .closed ∧
    ((updateStep recovering).stage 0).state = .openAuto := by decide +kernel

theorem witness_ShedRequestsMoveStages :
    (NewRequest reqShedStage .craft (frameFor reqShedStage 0 []) awake ∧ NewRequest reqShedStage .craft (frameFor reqShedStage 1 []) awake ∧
      NewRequest reqShedStage .craft (frameFor reqShedStage 4 []) awake ∧ NewRequest reqShedStage .craft (frameFor reqShedStage 5 []) awake ∧
      NewRequest reqShedStage .telemetry (frameFor reqShedStage 4 []) held) ∧
    (NewRequest reqRestoreStage .craft (frameFor reqRestoreStage 2 []) recovering ∧
      (∀ j : Fin 4, stageOf 2 < j → (recovering.stage j).state = .closed) ∧ (recovering.stage (stageOf 2)).state = .openAuto ∧
      recovering.recCond (stageOf 2) = true ∧ NewRequest reqRestoreStage .craft (frameFor reqRestoreStage 1 []) recovering) :=
  ⟨⟨new_request _ _ _ _, new_request _ _ _ _, new_request _ _ _ _, new_request _ _ _ _, new_request _ _ _ _⟩,
   new_request _ _ _ _, by decide +kernel, by decide +kernel, by decide +kernel, new_request _ _ _ _⟩

/-! ### Ports, settings, plant time and start-up -/

/-- Plant time stops at its last minute (R170). -/
theorem test_clock_stops_at_its_end : (minuteStep { awake with clk := ⟨65535, 1439, true⟩ }).clk = ⟨65535, 1439, true⟩ := by decide +kernel
theorem test_clock_passes_midnight : (minuteStep { awake with clk := ⟨4, 1439, true⟩ }).clk = ⟨5, 0, true⟩ := by decide +kernel

theorem witness_ReadsAnswerAndChangeNothing :
    NewRequest reqReadAccount .craft (frameFor reqReadAccount 1 []) awake ∧ NewRequest reqReadAccount .craft (frameFor reqReadAccount 2 []) awake ∧
    NewRequest reqReadModule .craft (frameFor reqReadModule 11 []) awake ∧ NewRequest reqReadModule .craft (frameFor reqReadModule 12 []) awake ∧
    NewRequest reqReadSupply .craft (frameFor reqReadSupply 0 []) awake ∧ NewRequest reqReadGenerator .craft (frameFor reqReadGenerator 0 []) awake ∧
    NewRequest reqReadRequests .craft (frameFor reqReadRequests 0 []) awake ∧ NewRequest reqReadSchedule .craft (frameFor reqReadSchedule 0 []) awake ∧
    NewRequest reqReadSchedule .craft (frameFor reqReadSchedule 1 []) scheduled ∧ NewRequest reqReadFuel .craft (frameFor reqReadFuel 0 []) awake ∧
    NewRequest reqReadMeasurement .craft (frameFor reqReadMeasurement 11 []) awake ∧
    NewRequest reqReadMeasurement .craft (frameFor reqReadMeasurement 12 []) awake ∧
    NewRequest reqReadMeasurement .craft (frameFor reqReadMeasurement 16 []) awake ∧
    NewRequest reqReadSetting .craft (frameFor reqReadSetting 70 [0]) awake ∧ NewRequest reqReadSetting .craft (frameFor reqReadSetting 71 [0]) awake ∧
    NewRequest reqReadClock .craft (frameFor reqReadClock 0 []) awake ∧ NewRequest reqReadShed .craft (frameFor reqReadShed 0 []) awake :=
  ⟨new_request _ _ _ _, new_request _ _ _ _, new_request _ _ _ _, new_request _ _ _ _, new_request _ _ _ _, new_request _ _ _ _,
   new_request _ _ _ _, new_request _ _ _ _, new_request _ _ _ _, new_request _ _ _ _, new_request _ _ _ _, new_request _ _ _ _,
   new_request _ _ _ _, new_request _ _ _ _, new_request _ _ _ _, new_request _ _ _ _, new_request _ _ _ _⟩

/-- A snapshot waiting in the craft port's slot. -/
def captured : State := awake.onPort .craft fun p => { p with slot := some (snapshotNow awake) }

theorem witness_ReadsThatCollect :
    NewRequest reqReadDetector .craft (frameFor reqReadDetector 31 []) awake ∧ NewRequest reqReadDetector .craft (frameFor reqReadDetector 32 []) awake ∧
    NewRequest reqReadPending .craft (frameFor reqReadPending 0 []) awake ∧ NewRequest reqReadSnapshot .craft (frameFor reqReadSnapshot 0 []) awake ∧
    NewRequest reqReadSnapshot .craft (frameFor reqReadSnapshot 0 []) captured ∧ (captured.port .craft).slot.isSome = true :=
  ⟨new_request _ _ _ _, new_request _ _ _ _, new_request _ _ _ _, new_request _ _ _ _, new_request _ _ _ _, rfl⟩

/-- A frame and the part that holds it as the craft port's last. -/
def fuelFrame : Frame := frameFor reqReadFuel 0 []
/-- The part after that frame. -/
def repeated : State := awake.onPort .craft fun p => { p with lastFrame := some (frameBytes reqReadFuel.code fuelFrame) }

theorem witness_FramesTurnedAway :
    (requestOf (.holdModule .telemetry (frameFor reqHoldModule 11 [])) = some (reqHoldModule, .telemetry, frameFor reqHoldModule 11 []) ∧
      NewRequest reqHoldModule .telemetry (frameFor reqHoldModule 11 []) held ∧ reqHoldModule.heldOff = true ∧
      reqHoldModule.objectExists held (frameFor reqHoldModule 11 []).index.toNat [] = true) ∧
    (repeated.startStep ≠ .load ∧ fuelFrame.args.length = reqReadFuel.argCount ∧ (frameBytes reqReadFuel.code fuelFrame).sum = 0#8 ∧
      (repeated.port .craft).lastFrame = some (frameBytes reqReadFuel.code fuelFrame)) ∧
    (State.reset.startStep.ended < reqHoldModule.setUpBy ∧ (State.reset.port .craft).lastFrame = none ∧
      (frameBytes reqHoldModule.code (frameFor reqHoldModule 11 [])).sum = 0#8) ∧
    (4 ≤ [1#8, 30#8, 0#8, 60#8].length ∧ (165#8 :: [1#8, 30#8, 0#8, 60#8]).sum = 0#8 ∧
      (30#8 : Byte).toNat ∉ List.range' 16 14 ++ List.range' 32 23 ∧ [1#8, 30#8, 60#8].length < 4 ∧
      (165#8 :: [1#8, 30#8, 0#8, 61#8]).sum ≠ 0#8) :=
  ⟨⟨rfl, new_request _ _ _ _, rfl, by decide +kernel⟩, by decide +kernel, by decide +kernel, by decide +kernel⟩

/-- SET MASK with one argument byte, where it takes two. -/
def shortFrame : Frame := frameFor reqSetMask 0 [1]

theorem witness_FramesTurnedAway_argument_count :
    (requestOf (.setMask .craft shortFrame) = some (reqSetMask, .craft, shortFrame) ∧ awake.startStep ≠ .load ∧ shortFrame.args.length ≤ 12 ∧
      shortFrame.args.length ≠ reqSetMask.argCount ∧ (frameBytes reqSetMask.code shortFrame).sum = 0#8 ∧
      (awake.port .craft).lastFrame ≠ some (frameBytes reqSetMask.code shortFrame)) ∧
    (let tail := (frameBytes reqSetMask.code shortFrame).tail
     165#8 :: tail = frameBytes reqSetMask.code shortFrame ∧ 4 ≤ tail.length ∧ tail.length ≤ 16 ∧ (165#8 :: tail).sum = 0#8 ∧
      ∃ rq ∈ catalogue, rq.code = (tail.getD 1 0#8).toNat ∧ rq.argCount ≠ tail.length - 4) := by
  refine ⟨⟨rfl, by decide +kernel⟩, by decide +kernel, by decide +kernel, by decide +kernel, by decide +kernel, reqSetMask, ?_, ?_⟩
  · simp [catalogue]
  · decide +kernel

theorem test_wrong_argument_count_is_answered_unknown :
    ((takeFor reqSetMask .craft shortFrame awake).port .craft).sent = some ⟨7#8, .rejected .unknown, []⟩ ∧
    ((takeTransfer .craft (frameBytes reqSetMask.code shortFrame) awake).port .craft).sent = some ⟨7#8, .rejected .unknown, []⟩ := by
  decide +kernel

theorem test_unknown_code_is_answered_unknown :
    ((takeTransfer .craft [165#8, 1#8, 30#8, 0#8, 60#8] awake).port .craft).sent = some ⟨1#8, .rejected .unknown, []⟩ := by decide +kernel

/-- A SET SETTING of a listed setting with a field that selects nothing is HELD in a site hold and out of RANGE elsewhere (R160, R174). -/
theorem test_bad_field_is_held_before_range :
    let f := frameFor reqSetSetting 75 [9, 0, 0, 0, 0]
    ((takeFor reqSetSetting .telemetry f held).port .telemetry).sent = some ⟨7#8, .rejected .held, []⟩ ∧
    ((takeFor reqSetSetting .telemetry f awake).port .telemetry).sent = some ⟨7#8, .rejected .range, []⟩ := by decide +kernel

theorem witness_PortStateRequests_capture :
    ((awake.onPort .craft fun p => { p with asked := true }).port .craft).asked = true ∧ (awake.port .exchange).asked = false := by
  decide +kernel

theorem test_capture_takes_the_snapshot :
    ((updateStep (awake.onPort .craft fun p => { p with asked := true })).port .craft).slot.map Snapshot.services =
      some [12, 0, 0, 0, 0, 0, 0, 0, 0] := by decide +kernel

theorem witness_PortStateRequests :
    NewRequest reqSetMask .craft (frameFor reqSetMask 0 [31, 255]) awake ∧ NewRequest reqSetMask .craft (frameFor reqSetMask 0 [32, 0]) awake ∧
    NewRequest reqTakeSnapshot .telemetry (frameFor reqTakeSnapshot 0 []) awake ∧
    NewRequest reqTakeSiteHold .craft (frameFor reqTakeSiteHold 0 []) (State.sees awake inKey) ∧
    ((State.sees awake inKey).input 8).level = some true ∧ NewRequest reqGiveSiteHold .craft (frameFor reqGiveSiteHold 0 []) held ∧
    NewRequest reqGiveSiteHold .telemetry (frameFor reqGiveSiteHold 0 []) held ∧
    NewRequest reqGiveSiteHold .telemetry (frameFor reqGiveSiteHold 0 []) awake :=
  ⟨new_request _ _ _ _, new_request _ _ _ _, new_request _ _ _ _, new_request _ _ _ _, by decide +kernel, new_request _ _ _ _,
   new_request _ _ _ _, new_request _ _ _ _⟩

theorem witness_SettingsAndClockRequests :
    (FreeRequest reqSetSetting .craft (frameFor reqSetSetting 0 [0, 0, 0, 11, 184]) awake ∧
      settingOf 0 (frameFor reqSetSetting 0 [0, 0, 0, 11, 184]).args = some (.plain .capA) ∧
      FreeRequest reqSetSetting .craft (frameFor reqSetSetting 75 [3, 0, 0, 3, 232]) awake ∧
      settingOf 75 (frameFor reqSetSetting 75 [3, 0, 0, 3, 232]).args = some (.stage 3 .recSoc) ∧
      FreeRequest reqSetSetting .craft (frameFor reqSetSetting 99 [0, 0, 0, 0, 1]) awake ∧
      settingOf 99 (frameFor reqSetSetting 99 [0, 0, 0, 0, 1]).args = some (.det 3 .cls) ∧
      FreeRequest reqSetSetting .craft (frameFor reqSetSetting 76 [0, 0, 0, 0, 1]) awake ∧
      settingOf 76 (frameFor reqSetSetting 76 [0, 0, 0, 0, 1]).args = none) ∧
    (FreeRequest reqSaveSettings .craft (frameFor reqSaveSettings 0 []) awake ∧ awake.ss.save = none ∧
      FreeRequest reqSaveSettings .craft (frameFor reqSaveSettings 0 []) writing ∧ writing.ss.save.isSome = true) ∧
    FreeRequest reqSetClock .craft (frameFor reqSetClock 0 [255, 255, 5, 159]) awake ∧
    FreeRequest reqSetClock .craft (frameFor reqSetClock 0 [255, 255, 5, 160]) awake :=
  ⟨⟨free_request _ _ _ _, by decide +kernel, free_request _ _ _ _, by decide +kernel, free_request _ _ _ _, by decide +kernel, free_request _ _ _ _,
    by decide +kernel⟩, ⟨free_request _ _ _ _, rfl, free_request _ _ _ _, rfl⟩, free_request _ _ _ _, free_request _ _ _ _⟩

/-- CONTACTOR-MISMATCH in LATCHED with the transfer inhibit it holds, MODULE-FAULT in ACTIVE with slot 0 marked and RESTING. -/
def acting : State :=
  let s := State.onMod (State.detAt (State.detAt onMains 20 .latched 0) 13 .active 1) 0 fun m => { m with service := .resting }
  (s.setDet 13 { s.det 13 with marks := 1#12 }).withSc { s.sc with inhibit := true }

theorem witness_SettingsAndClockRequests_detectors :
    (FreeRequest reqSetSetting .craft (frameFor reqSetSetting 25 [0, 0, 0, 16, 1]) acting ∧
      settingOf 25 (frameFor reqSetSetting 25 [0, 0, 0, 16, 1]).args = some (.plain .slotFitted)) ∧
    (FreeRequest reqSetSetting .craft (frameFor reqSetSetting 96 [2, 0, 0, 0, 17]) acting ∧
      settingOf 96 (frameFor reqSetSetting 96 [2, 0, 0, 0, 17]).args = some (.det 0 .qualify)) ∧
    (FreeRequest reqSetSetting .craft (frameFor reqSetSetting 116 [0, 0, 0, 0, 4]) acting ∧
      settingOf 116 (frameFor reqSetSetting 116 [0, 0, 0, 0, 4]).args = some (.det 20 .cls)) ∧
    (FreeRequest reqSetSetting .craft (frameFor reqSetSetting 116 [0, 0, 0, 0, 0]) acting ∧ (acting.det 20).state = .latched ∧
      acting.actionOf 20 = true ∧ (writeSetting (.det 20 .cls) 0 acting).actionOf 20 = false) ∧
    FreeRequest reqSetSetting .craft (frameFor reqSetSetting 109 [0, 0, 0, 0, 3]) acting ∧
      settingOf 109 (frameFor reqSetSetting 109 [0, 0, 0, 0, 3]).args = some (.det 13 .cls) ∧ (acting.detCfg 13).cls = .recover ∧
      acting.marked 13 0 = true ∧ (acting.mod 0).service = .resting :=
  ⟨⟨free_request _ _ _ _, by decide +kernel⟩, ⟨free_request _ _ _ _, by decide +kernel⟩, ⟨free_request _ _ _ _, by decide +kernel⟩,
   ⟨free_request _ _ _ _, by decide +kernel, by decide +kernel, by decide +kernel⟩, free_request _ _ _ _, by decide +kernel,
   by decide +kernel, by decide +kernel, by decide +kernel⟩

/-- NOTE ends the inhibit and takes LATCHED to HOLDING; LATCH retires the slot that RECOVER rested (R145). -/
theorem test_class_write_moves_the_actions :
    (writeSetting (.det 20 .cls) 0 acting).sc.inhibit = false ∧ ((writeSetting (.det 20 .cls) 0 acting).det 20).state = .holding ∧
    ((writeSetting (.det 13 .cls) 3 acting).mod 0).service = .retired ∧
    ((writeSetting (.det 13 .cls) 3 acting).mod 0).retireCause = some .moduleFault := by decide +kernel

/-- Slot 11 HELD by the craft port with the site key at its first level, and slot 10 RETIRED. -/
def serviced : State :=
  State.onMod (State.onMod (State.sees onMains inKey) 11 fun m => { m with service := .held, holdOrigin := some .craft }) 10
    fun m => { m with service := .retired, retireCause := some .moduleFault }

theorem witness_ModuleAndGeneratorRequests :
    (FreeRequest reqHoldModule .craft (frameFor reqHoldModule 0 []) serviced ∧ (serviced.mod 0).service = .running ∧
      FreeRequest reqHoldModule .craft (frameFor reqHoldModule 11 []) serviced ∧ (serviced.mod 11).service = .held ∧
      FreeRequest reqHoldModule .craft (frameFor reqHoldModule 10 []) serviced ∧ (serviced.mod 10).service = .retired) ∧
    (FreeRequest reqReturnModule .craft (frameFor reqReturnModule 11 []) serviced ∧
      FreeRequest reqReturnModule .telemetry (frameFor reqReturnModule 11 []) serviced ∧ (serviced.mod 11).holdOrigin = some .craft ∧
      (serviced.input 8).level = some true ∧ FreeRequest reqReturnModule .craft (frameFor reqReturnModule 10 []) serviced) ∧
    (FreeRequest reqReleaseModule .craft (frameFor reqReleaseModule 10 []) serviced ∧ (serviced.mod 10).fault.isSome = false ∧
      FreeRequest reqReleaseModule .craft (frameFor reqReleaseModule 0 []) serviced) ∧
    (FreeRequest reqRotateNow .craft (frameFor reqRotateNow 0 []) serviced ∧ serviced.sc.source = .mains ∧ serviced.rc.swap = none ∧
      FreeRequest reqRotateNow .craft (frameFor reqRotateNow 0 []) awake ∧ awake.sc.source ≠ .mains) ∧
    (FreeRequest reqReleaseGenerator .craft (frameFor reqReleaseGenerator 0 []) lockedOut ∧
      ¬(lockedOut.sc.seq.state ≠ .lockedOut ∨ lockedOut.faultLevel ≠ some false ∨ lockedOut.sc.lockOut = true ∨ lockedOut.running ≠ some false) ∧
      FreeRequest reqReleaseGenerator .craft (frameFor reqReleaseGenerator 0 []) awake ∧ awake.sc.seq.state ≠ .lockedOut) :=
  ⟨⟨free_request _ _ _ _, by decide +kernel, free_request _ _ _ _, by decide +kernel, free_request _ _ _ _, by decide +kernel⟩,
   ⟨free_request _ _ _ _, free_request _ _ _ _, by decide +kernel, by decide +kernel, free_request _ _ _ _⟩,
   ⟨free_request _ _ _ _, by decide +kernel, free_request _ _ _ _⟩,
   ⟨free_request _ _ _ _, rfl, rfl, free_request _ _ _ _, by decide⟩,
   free_request _ _ _ _, by decide +kernel, free_request _ _ _ _, by decide⟩

theorem witness_ModuleAndGeneratorRequests_index :
    NewRequest reqHoldModule .telemetry (frameFor reqHoldModule 12 []) held ∧
    NewRequest reqReturnModule .telemetry (frameFor reqReturnModule 12 []) held ∧
    NewRequest reqReleaseModule .telemetry (frameFor reqReleaseModule 255 []) held ∧ 12 ≤ (BitVec.ofNat 8 12).toNat :=
  ⟨new_request _ _ _ _, new_request _ _ _ _, new_request _ _ _ _, by decide⟩

theorem witness_RestartsSetUpTheirRecords :
    (State.reset.ss.image.first.isValid = false ∧ State.reset.ss.image.second.isValid = false ∧ State.reset.ss.ckpt.first.isValid = false ∧
      State.reset.ss.ckpt.second.isValid = false) ∧
    FreeRequest reqWarmRestart .craft (frameFor reqWarmRestart 0 []) onMains := ⟨by decide +kernel, free_request _ _ _ _⟩

/-- A checkpoint with two strings, slot 0 run for 90 minutes and 7.0 L of fuel counted. -/
def stored : Ckpt := ⟨⟨3600000, 5, .anchored, 12⟩, some ⟨200000000, 0, .stale, 3⟩, (Vector.replicate 12 0).set 0 90, 70, 30⟩

/-- A store whose later valid copies are the image's first, its sequence number passing 0, and the checkpoint's second. -/
def storing (strings : Nat) : State :=
  let image : Image := ⟨Settings.defaults.put .strings strings, [entry .exercise 9]⟩
  { onMains with ss := { onMains.ss with
    image := ⟨⟨true, true, 0, some image⟩, ⟨true, true, 4294967295, some ⟨.defaults, []⟩⟩⟩
    ckpt := ⟨⟨false, true, 9, none⟩, ⟨true, true, 4, some stored⟩⟩ } }

theorem witness_RestartsSetUpTheirRecords_store :
    (∀ n ∈ [1, 2], LaterValid (storing n).ss.image .first ∧ ((storing n).ss.image.copy .first).content.isSome = true ∧
      LaterValid (storing n).ss.ckpt .second ∧ ((storing n).ss.ckpt.copy .second).content = some stored ∧
      (startUp (storing n)).cfg .strings = n) ∧ stored.strB.isSome = true := by
  unfold LaterValid
  decide +kernel

/-- A power-on restores the accounts and the run minutes of the later valid checkpoint and loads the later valid image (R38, R40, R169). -/
theorem test_power_on_restores :
    (startUp (storing 2)).au.acctA.q = 3600000 ∧ (startUp (storing 2)).au.acctB.map Account.q = (startUp (storing 2)).au.acctB.map Account.cfull ∧
    ((startUp (storing 2)).mod 0).runMinutes = 90 ∧ (startUp (storing 2)).rqu.fuel = 70 ∧
    (startUp (storing 2)).rqu.schedule = [entry .exercise 9] := by decide +kernel

/-- A warm restart on MAINS finds modules in every kind of service, a BOOST and requests to be served. -/
def restarting : State :=
  let s := State.onMod (State.onMod serviced 4 fun m => { m with service := .stopping, stopCheck := true, timeIn := 4 }) 5
    fun m => { m with service := .resting, timeIn := 299 }
  { s with cc := { s.cc with mode := .boost, boostRemaining := some 9 }, rqu := scheduled.rqu }

theorem witness_RestartsSetUpTheirRecords_warm :
    FreeRequest reqWarmRestart .craft (frameFor reqWarmRestart 0 []) restarting ∧
    (let t := warmBlocks restarting
     t.sc.source = restarting.sc.source ∧ t.sc.source ≠ .none ∧ t.actionOf 3 = false ∧ t.actionOf 13 = false ∧ t.actionOf 14 = false) ∧
    (restarting.mod 0).service = .running ∧ (restarting.mod 1).service = .starting ∧ (restarting.mod 4).service = .stopping ∧
    (restarting.mod 5).service = .resting ∧ (restarting.mod 11).service = .held ∧ restarting.cc.mode ≠ .float ∧ restarting.rqu.reqs ≠ [] ∧
    FreeRequest reqWarmRestart .craft (frameFor reqWarmRestart 0 []) awake ∧ (warmBlocks awake).sc.source = .none :=
  ⟨free_request _ _ _ _, by decide +kernel, by decide +kernel, by decide +kernel, by decide +kernel, by decide +kernel, by decide +kernel,
   by decide, by decide, free_request _ _ _ _, by decide +kernel⟩

/-- A warm restart keeps the attempt limit and fail-to-start where it does not keep the sequence (notes/assumptions/32.md). -/
theorem test_warm_restart_keeps_the_limit :
    let t := scWarm (State.engine awake { seqAt .coolDown with limit := 7, failStart := true })
    t.sc.seq.state = .off ∧ t.sc.seq.limit = 7 ∧ t.sc.seq.failStart = true := by decide +kernel

/-- The machine after reset is what a power-on makes of a blank store (R171), but for the two values it draws (notes/assumptions/7.md). -/
theorem test_reset_is_a_power_on : startUp State.reset = { State.reset with freeDraws := 2 } := by decide +kernel

end Sys2Proof.Tests
end

namespace Sys2Proof.Machine

/-! The debounce of the digital inputs (O21): what a period completion makes of an input record (R11, R12), and that the rest of the measurement
period carries it to the detector evaluation with the site hold. `OnlyRc` and `OnlySupply` leave the port records open, where the site hold stands, so
the frames below follow it through the same operations. -/

/-! ### The MU's records and the site hold -/

/-- The MU's records and the site hold: of a measurement period, only the completion (R11, R162) and the taking of the changed marks (R144) change
them. -/
def State.muAndHold (s : State) : Mu × Bool := (s.mu, s.pc.siteHold)

theorem State.mu_of_muAndHold {s t : State} (h : t.muAndHold = s.muAndHold) : t.mu = s.mu := congrArg Prod.fst h

theorem State.input_of_mu {s t : State} (h : t.mu = s.mu) (i : Fin 13) : t.input i = s.input i := congrArg (fun m => m.inputs[i]) h

theorem State.siteHold_of_muAndHold {s t : State} (h : t.muAndHold = s.muAndHold) : t.pc.siteHold = s.pc.siteHold := congrArg Prod.snd h

@[simp] theorem muAndHold_ite (c : Prop) [Decidable c] (a b : State) :
    (if c then a else b).muAndHold = if c then a.muAndHold else b.muAndHold := apply_ite _ _ _ _

/-- Actions that each keep the records and the hold keep them in turn. -/
theorem foldl_muAndHold {α : Type} (f : State → α → State) (h : ∀ x a, (f x a).muAndHold = x.muAndHold) (l : List α) (s : State) :
    (l.foldl f s).muAndHold = s.muAndHold := by
  induction l generalizing s with
  | nil => rfl
  | cons a rest ih => exact (ih (f s a)).trans (h s a)

theorem forSlots_muAndHold (f : Slot → State → State) (h : ∀ k x, (f k x).muAndHold = x.muAndHold) (s : State) :
    (forSlots f s).muAndHold = s.muAndHold := foldl_muAndHold _ (fun x k => h k x) _ s

/-! ### Updates of the other units, and notices -/

@[simp] theorem State.withCc_muAndHold (s : State) (x : Cc) : (s.withCc x).muAndHold = s.muAndHold := rfl
@[simp] theorem State.withRc_muAndHold (s : State) (x : Rc) : (s.withRc x).muAndHold = s.muAndHold := rfl
@[simp] theorem State.withSc_muAndHold (s : State) (x : Sc) : (s.withSc x).muAndHold = s.muAndHold := rfl
@[simp] theorem State.withRqu_muAndHold (s : State) (x : Rqu) : (s.withRqu x).muAndHold = s.muAndHold := rfl
@[simp] theorem State.withDu_muAndHold (s : State) (x : Du) : (s.withDu x).muAndHold = s.muAndHold := rfl
@[simp] theorem State.setMod_muAndHold (s : State) (k : Slot) (m : Module) : (s.setMod k m).muAndHold = s.muAndHold := rfl
@[simp] theorem State.setDet_muAndHold (s : State) (d : Fin 32) (e : Det) : (s.setDet d e).muAndHold = s.muAndHold := rfl
@[simp] theorem State.onPort_muAndHold (s : State) (q : Port) (f : PortRec → PortRec) : (s.onPort q f).muAndHold = s.muAndHold := rfl
@[simp] theorem raiseTo_muAndHold (q : Port) (n : Notice) (s : State) : (raiseTo q n s).muAndHold = s.muAndHold := rfl
@[simp] theorem raiseAll_muAndHold (n : Notice) (s : State) : (raiseAll n s).muAndHold = s.muAndHold := rfl

/-! ### Service states and demand (R79 to R87) -/

@[simp] theorem placeService_muAndHold (k : Slot) (st : Service) (s : State) : (placeService k st s).muAndHold = s.muAndHold := by
  simp [placeService]

@[simp] theorem followSwap_muAndHold (k : Slot) (old new : Service) (s : State) : (followSwap k old new s).muAndHold = s.muAndHold := by
  unfold followSwap
  split <;> simp

@[simp] theorem setService_muAndHold (k : Slot) (st : Service) (s : State) : (setService k st s).muAndHold = s.muAndHold := by
  simp [setService]

@[simp] theorem startModule_muAndHold (timed : Bool) (k : Slot) (s : State) : (startModule timed k s).muAndHold = s.muAndHold := by
  simp [startModule]

@[simp] theorem startHead_muAndHold (s : State) : (startHead s).muAndHold = s.muAndHold := by
  unfold startHead
  split <;> simp

@[simp] theorem demandEval_muAndHold (s : State) : (demandEval s).muAndHold = s.muAndHold := by
  simp [demandEval, relieveSkips, placeValues, updateRemoval, updateQueue, formNeed]

@[simp] theorem stopAll_muAndHold (s : State) : (stopAll s).muAndHold = s.muAndHold := by
  simp [stopAll, forSlots_muAndHold]

@[simp] theorem stopSurplusOne_muAndHold (s : State) : (stopSurplusOne s).muAndHold = s.muAndHold := by
  unfold stopSurplusOne
  repeat' split
  all_goals simp

@[simp] theorem capTest_muAndHold (s : State) : (capTest s).muAndHold = s.muAndHold := by
  simp [capTest, foldl_muAndHold]

@[simp] theorem rcSourceChange_muAndHold (s : State) : (rcSourceChange s).muAndHold = s.muAndHold := by
  unfold rcSourceChange
  repeat' split
  all_goals simp

@[simp] theorem setShut_muAndHold (on : Bool) (s : State) : (setShut on s).muAndHold = s.muAndHold := by
  simp [setShut]

/-! ### The charge mode (R43, R47, R50) -/

@[simp] theorem setMode_muAndHold (mode : ChargeMode) (boost : Option Nat) (s : State) : (setMode mode boost s).muAndHold = s.muAndHold := by
  simp [setMode, recompute]

@[simp] theorem endRefresh_muAndHold (s : State) : (endRefresh s).muAndHold = s.muAndHold := by
  simp [endRefresh]

@[simp] theorem ccSourceChange_muAndHold (s : State) : (ccSourceChange s).muAndHold = s.muAndHold := by
  unfold ccSourceChange
  split <;> simp

@[simp] theorem restrict_muAndHold (d : Fin 32) (on : Bool) (s : State) : (restrict d on s).muAndHold = s.muAndHold := by
  simp [restrict]

/-! ### Run requests and the outage timer (R124, R125) -/

@[simp] theorem refreshRequests_muAndHold (s : State) : (refreshRequests s).muAndHold = s.muAndHold := rfl

@[simp] theorem refreshIfChanged_muAndHold (a t : State) : (refreshIfChanged a t).muAndHold = t.muAndHold := by
  simp [refreshIfChanged]

@[simp] theorem createMainsFail_muAndHold (s : State) : (createMainsFail s).muAndHold = s.muAndHold := by
  simp [createMainsFail, createRecord]

@[simp] theorem completeMainsFail_muAndHold (s : State) : (completeMainsFail s).muAndHold = s.muAndHold := by
  simp [completeMainsFail, removeReason]

@[simp] theorem cancelOutage_muAndHold (s : State) : (cancelOutage s).muAndHold = s.muAndHold := rfl

@[simp] theorem outageSecond_muAndHold (s : State) : (outageSecond s).muAndHold = s.muAndHold := by
  simp [outageSecond]

@[simp] theorem rquSourceChange_muAndHold (s : State) : (rquSourceChange s).muAndHold = s.muAndHold := by
  unfold rquSourceChange
  split <;> simp [startOutage]

@[simp] theorem rquMainsReturn_muAndHold (s : State) : (rquMainsReturn s).muAndHold = s.muAndHold := by
  unfold rquMainsReturn
  split <;> simp

@[simp] theorem rquSeqTaken_muAndHold (s : State) : (rquSeqTaken s).muAndHold = s.muAndHold := by
  unfold rquSeqTaken
  split <;> simp

/-! ### Source, contactors and transfers (R100, R106) -/

@[simp] theorem refreshSource_muAndHold (s : State) : (refreshSource s).muAndHold = s.muAndHold := by
  simp [refreshSource]

@[simp] theorem commandContactor_muAndHold (k : Contactor) (closed : Bool) (s : State) :
    (commandContactor k closed s).muAndHold = s.muAndHold := by
  simp [commandContactor]

@[simp] theorem endBreak_muAndHold (s : State) : (endBreak s).muAndHold = s.muAndHold := by
  unfold endBreak
  repeat' split
  all_goals simp

@[simp] theorem beginTransfer_muAndHold (d : Direction) (s : State) : (beginTransfer d s).muAndHold = s.muAndHold := by
  simp [beginTransfer]

@[simp] theorem dropGenerator_muAndHold (s : State) : (dropGenerator s).muAndHold = s.muAndHold := by
  simp [dropGenerator]

@[simp] theorem enterSeq_muAndHold (st : SeqState) (more : Seq → Seq) (s : State) : (enterSeq st more s).muAndHold = s.muAndHold := by
  simp [enterSeq, enterGc]

/-! ### The supply evaluation (R101) -/

@[simp] theorem mainsStep_muAndHold (s : State) : (mainsStep s).muAndHold = s.muAndHold := by
  unfold mainsStep
  split <;> simp [mainsFailSteps, mainsReturnSteps]

@[simp] theorem startUpStep_muAndHold (s : State) : (startUpStep s).muAndHold = s.muAndHold := by
  simp [startUpStep]

@[simp] theorem supplyFront_muAndHold (s : State) : (supplyFront s).muAndHold = s.muAndHold := by
  simp [supplyFront, mismatchStep, ageStep, genGoodStep, openTimes]

@[simp] theorem stopPulseEndStep_muAndHold (s : State) : (stopPulseEndStep s).muAndHold = s.muAndHold := by
  simp [stopPulseEndStep]

@[simp] theorem foundStopped_muAndHold (s : State) : (foundStopped s).muAndHold = s.muAndHold := by
  simp [foundStopped]

@[simp] theorem seqTimers_muAndHold (s : State) : (seqTimers s).muAndHold = s.muAndHold := by
  simp [seqTimers, seqTick]

@[simp] theorem qualifyStep_muAndHold (s : State) : (qualifyStep s).muAndHold = s.muAndHold := by
  simp [qualifyStep, failStart]

@[simp] theorem unloadedStep_muAndHold (s : State) : (unloadedStep s).muAndHold = s.muAndHold := by
  simp [unloadedStep]

@[simp] theorem warmedStep_muAndHold (s : State) : (warmedStep s).muAndHold = s.muAndHold := by
  simp [warmedStep]

@[simp] theorem warmOutStep_muAndHold (s : State) : (warmOutStep s).muAndHold = s.muAndHold := by
  simp [warmOutStep]

@[simp] theorem lockOutSet_muAndHold (s : State) : (lockOutSet s).muAndHold = s.muAndHold := by
  simp [lockOutSet]

@[simp] theorem stallSet_muAndHold (s : State) : (stallSet s).muAndHold = s.muAndHold := by
  unfold stallSet
  dsimp only
  repeat' split
  all_goals simp [enterOff, failStart]

@[simp] theorem unloadStep_muAndHold (s : State) : (unloadStep s).muAndHold = s.muAndHold := by
  simp [unloadStep, enterWarmUp]

@[simp] theorem seqAct_muAndHold (s : State) : (seqAct s).muAndHold = s.muAndHold := by
  unfold seqAct
  split <;> simp [enterWarmUp, enterCranking, enterOff, failStart]

@[simp] theorem zeroPrestartStep_muAndHold (s : State) : (zeroPrestartStep s).muAndHold = s.muAndHold := by
  simp [zeroPrestartStep, enterCranking]

@[simp] theorem zeroWarmupStep_muAndHold (s : State) : (zeroWarmupStep s).muAndHold = s.muAndHold := by
  simp [zeroWarmupStep]

@[simp] theorem zeroCooldownStep_muAndHold (s : State) : (zeroCooldownStep s).muAndHold = s.muAndHold := by
  simp [zeroCooldownStep]

@[simp] theorem sequenceStep_muAndHold (s : State) : (sequenceStep s).muAndHold = s.muAndHold := by
  simp [sequenceStep]

@[simp] theorem makeEnd_muAndHold (s : State) : (makeEnd s).muAndHold = s.muAndHold := by
  unfold makeEnd
  repeat' split
  all_goals simp

@[simp] theorem supplyEval_muAndHold (s : State) : (supplyEval s).muAndHold = s.muAndHold := by
  simp [supplyEval, transferStep]

/-! ### Slot marks and the RC's second (R80, R92, R146) -/

@[simp] theorem moveModule_muAndHold (k : Slot) (st : Service) (s : State) : (moveModule k st s).muAndHold = s.muAndHold := by
  simp [moveModule]

@[simp] theorem handSlot_muAndHold (d : Fin 32) (k : Slot) (s : State) : (handSlot d k s).muAndHold = s.muAndHold := by
  unfold handSlot restSlot retireSlot
  repeat' split
  all_goals simp

@[simp] theorem handMarked_muAndHold (d : Fin 32) (s : State) : (handMarked d s).muAndHold = s.muAndHold :=
  forSlots_muAndHold _ (fun _ _ => by simp) _

@[simp] theorem newOccurrence_muAndHold (d : Fin 32) (s : State) : (newOccurrence d s).muAndHold = s.muAndHold := rfl

@[simp] theorem setMark_muAndHold (d : Fin 32) (k : Slot) (s : State) : (setMark d k s).muAndHold = s.muAndHold := by
  simp [setMark]

@[simp] theorem clearMarkUnder_muAndHold (cls : DetClass → Bool) (d : Fin 32) (k : Slot) (s : State) :
    (clearMarkUnder cls d k s).muAndHold = s.muAndHold := by
  simp [clearMarkUnder, clearMark]

@[simp] theorem placeStandby_muAndHold (k : Slot) (s : State) : (placeStandby k s).muAndHold = s.muAndHold := by
  unfold placeStandby
  split <;> simp [standingActions]

/-- What expires for one slot (R89, R92). -/
@[simp] theorem slotSecond_muAndHold (k : Slot) (s : State) : (slotSecond k s).muAndHold = s.muAndHold := by
  simp [slotSecond, startMismatch, checkStop, endRest, enterStandby]

@[simp] theorem rcSlots_muAndHold (s : State) : (rcSlots s).muAndHold = s.muAndHold :=
  foldl_muAndHold _ (fun x k => slotSecond_muAndHold k x) _ (rcCount s)

@[simp] theorem removalExpiry_muAndHold (s : State) : (removalExpiry s).muAndHold = s.muAndHold := by
  unfold removalExpiry
  split <;> simp

@[simp] theorem walkInExpiry_muAndHold (s : State) : (walkInExpiry s).muAndHold = s.muAndHold := by
  unfold walkInExpiry
  split <;> simp

@[simp] theorem rcRemoval_muAndHold (s : State) : (rcRemoval s).muAndHold = s.muAndHold := by
  simp [rcRemoval]

@[simp] theorem rcSecond_muAndHold (s : State) : (rcSecond s).muAndHold = s.muAndHold := by
  simp [rcSecond]

/-- Between the completion and the detector evaluation of a period nothing reaches the records or the hold (R2). -/
theorem periodSupply_muAndHold (r : Readings) (s : State) : (periodSupply r s).muAndHold = (completePeriod r s).muAndHold := by
  simp [periodSupply, periodRc, periodOutage]

/-! ### The detector evaluation (R144) -/

@[simp] theorem startAction_muAndHold (d : Fin 32) (s : State) : (startAction d s).muAndHold = s.muAndHold := by
  unfold startAction
  split <;> simp [setLockOut, setInhibit]

@[simp] theorem endAction_muAndHold (d : Fin 32) (s : State) : (endAction d s).muAndHold = s.muAndHold := by
  unfold endAction
  split <;> simp [setLockOut, setInhibit]

@[simp] theorem handChange_muAndHold (d : Fin 32) (was : Bool) (s : State) : (handChange d was s).muAndHold = s.muAndHold := by
  simp [handChange]

@[simp] theorem setDetActing_muAndHold (d : Fin 32) (e : Det) (s : State) : (setDetActing d e s).muAndHold = s.muAndHold := by
  simp [setDetActing]

/-- One detector moved by R144's table, whatever its state and condition. -/
@[simp] theorem moveDet_muAndHold (d : Fin 32) (present : Bool) (s : State) : (moveDet d present s).muAndHold = s.muAndHold := by
  unfold moveDet
  dsimp only
  split <;> simp [activate, reactivate, setDetRaising]

@[simp] theorem proofStep_muAndHold (conds : Vector Bool 32) (s : State) : (proofStep conds s).muAndHold = s.muAndHold := by
  unfold proofStep
  split <;> simp [raiseProof]

@[simp] theorem detsBelow_muAndHold (n : Nat) (conds : Vector Bool 32) (s : State) : (detsBelow n conds s).muAndHold = s.muAndHold :=
  foldl_muAndHold _ (fun _ _ => by simp) _ s

/-- After the changed marks are taken, the rest of a detector evaluation leaves the records and the hold. -/
theorem detectorEval_muAndHold (s : State) : (detectorEval s).muAndHold = (takeInputs s).muAndHold := by
  simp [detectorEval, formRelays, evalBelow]

@[simp] theorem takeInputs_siteHold (s : State) : (takeInputs s).pc.siteHold = s.pc.siteHold := rfl

/-- Taking an input clears its changed mark and leaves its level and readings (R12). -/
theorem takeInputs_input (s : State) (i : Fin 13) : (takeInputs s).input i = { s.input i with changed := false } := by
  have hclear := vmap_get (fun r : InputRec => { r with changed := false }) s.mu.inputs i
  exact hclear

/-! ### The debounce (R11, R12) -/

/-- The new reading joins the recent ones; the oldest goes when there would be four. -/
theorem inputStep_recent (x : Bool) (r : InputRec) : (inputStep x r).recent = (r.recent ++ [x]).drop (r.recent.length + 1 - 3) := by
  unfold inputStep
  dsimp only
  split <;> simp

/-- The level follows three equal readings, and nothing else. -/
theorem inputStep_level (x : Bool) (r : InputRec) :
    (inputStep x r).level = if (inputStep x r).recent = [x, x, x] then some x else r.level := by
  unfold inputStep
  dsimp only
  split
  · next h =>
    have hw := eq_of_beq (Bool.and_eq_true_iff.mp h).1
    rw [if_pos hw]
  · next h =>
    by_cases hw : (r.recent ++ [x]).drop ((r.recent ++ [x]).length - 3) = [x, x, x]
    · have hl : r.level = some x := by
        rw [hw, beq_self_eq_true, Bool.true_and, bne_iff_ne] at h
        exact Decidable.of_not_not h
      rw [if_pos hw, hl]
    · rw [if_neg hw]

/-- The changed mark is set exactly where the level changes, and a set one stays. -/
theorem inputStep_changed (x : Bool) (r : InputRec) :
    (inputStep x r).changed = (r.changed || decide ((inputStep x r).level ≠ r.level)) := by
  unfold inputStep
  dsimp only
  split
  · next h =>
    have hne : r.level ≠ some x := by simpa using (Bool.and_eq_true_iff.mp h).2
    simp [hne.symm]
  · simp

/-! ### The period completion and the whole period -/

theorem completePeriod_mu (r : Readings) (s : State) : (completePeriod r s).mu = (muCompletion r s).mu := by
  unfold completePeriod siteKeyEnd
  split <;> rfl

/-- A completion debounces every input (R2, R11). -/
theorem completePeriod_input (r : Readings) (s : State) (i : Fin 13) :
    (completePeriod r s).input i = inputStep r.inputs[i] (s.input i) :=
  (State.input_of_mu (completePeriod_mu r s) i).trans (vgen_get (fun j => inputStep r.inputs[j] (s.input j)) i)

/-- The completion at which the site key's level becomes inactive ends the site hold (R162). -/
theorem completePeriod_siteHold_of_key (r : Readings) (s : State) (hwas : (s.input inKey).level ≠ some false)
    (hnow : ((completePeriod r s).input inKey).level = some false) : (completePeriod r s).pc.siteHold = false := by
  have hmu : ((muCompletion r s).input inKey).level = some false := by
    rw [← State.input_of_mu (completePeriod_mu r s), hnow]
  simp [completePeriod, siteKeyEnd, hmu, hwas]

/-- An input after a whole measurement period: as the completion left it, its changed mark taken (R11, R12). -/
theorem periodStep_input (r : Readings) (s : State) (i : Fin 13) :
    (periodStep r s).input i = { (completePeriod r s).input i with changed := false } := by
  have hdu : (periodStep r s).input i = (takeInputs (periodSupply r s)).input i :=
    State.input_of_mu (State.mu_of_muAndHold (detectorEval_muAndHold (periodSupply r s))) i
  have hsc : (periodSupply r s).input i = (completePeriod r s).input i :=
    State.input_of_mu (State.mu_of_muAndHold (periodSupply_muAndHold r s)) i
  rw [hdu, takeInputs_input, hsc]

/-- The site hold after a whole measurement period stands as the completion left it (R162). -/
theorem periodStep_siteHold (r : Readings) (s : State) : (periodStep r s).pc.siteHold = (completePeriod r s).pc.siteHold :=
  calc (periodStep r s).pc.siteHold
      = (takeInputs (periodSupply r s)).pc.siteHold := State.siteHold_of_muAndHold (detectorEval_muAndHold _)
    _ = (periodSupply r s).pc.siteHold := takeInputs_siteHold _
    _ = (completePeriod r s).pc.siteHold := State.siteHold_of_muAndHold (periodSupply_muAndHold r s)

/-- Settles O21: the completion debounces the input (R11), the rest of the period carries its record to the detector evaluation, which takes the
changed mark and nothing else of it (R12, R144); the site hold goes with the site key's level at the completion (R162). -/
theorem inputsAreDebounced : Obligations.InputsAreDebounced := by
  unfold Obligations.InputsAreDebounced
  intro r i s
  refine ⟨periodStep r s, rfl, ?_, ?_, ?_, ?_, ?_⟩ <;> rw [periodStep_input]
  · rw [completePeriod_input, inputStep_recent]
  · rw [completePeriod_input, inputStep_level]
  · rw [completePeriod_input, inputStep_changed]
  · intro hkey hwas hnow
    obtain rfl : i = inKey := Fin.ext hkey
    rw [periodStep_siteHold]
    exact completePeriod_siteHold_of_key r s hwas hnow

end Sys2Proof.Machine

namespace Sys2Proof.Machine

/-! The charge results after an account update (O26): the charge evaluation ends by forming them (R44 step 4), the request and shed evaluations that
follow leave all they are formed from, and each result is then the rule's own figure (R53 to R57). -/

/-! ### What an account update leaves of the settings -/

theorem OnlySupply.ss {s t : State} (h : OnlySupply s t) : t.ss = s.ss := by unfold OnlySupply at h; rw [h]

theorem followStrings_ss (s : State) : (followStrings s).ss = s.ss := by
  unfold followStrings
  split
  · rfl
  · split <;> rfl

/-- A checkpoint is written beside the working table, never over it (R37). -/
theorem startCheckpoint_table (s : State) : (startCheckpoint s).ss.table = s.ss.table := by
  unfold startCheckpoint
  split <;> rfl

theorem auUpdate_table (s : State) : (auUpdate s).ss.table = s.ss.table := by
  have haccounts : (accountsStep (followStrings s)).1.ss = s.ss := followStrings_ss s
  unfold auUpdate
  dsimp only
  split
  · rw [startCheckpoint_table, haccounts]
  · rw [haccounts]

/-! ### The charge evaluation (R44) -/

theorem taperExitStep_frame (s : State) : OnlySupply s (taperExitStep s) := by
  unfold taperExitStep
  split
  · exact (onlySupply_withCc s _).trans (setMode_frame _ _ _)
  · split <;> rfl

theorem entryStep_frame (s : State) : OnlySupply s (entryStep s) := by
  unfold entryStep
  split
  · exact setMode_frame _ _ _
  · split
    · exact setMode_frame _ _ _
    · rfl

theorem chargeEval_frame (s : State) : OnlySupply s (chargeEval s) :=
  (((taperExitStep_frame s).trans (onlySupply_withCc _ _ : OnlySupply _ (rearmStep _))).trans (entryStep_frame _)).trans
    (onlySupply_withCc _ _)

/-- The charge record's results agree with its mode, the settings, the existing strings and their temperatures. -/
structure ChargeFormed (s : State) : Prop where
  tc : s.cc.tc = s.compensation
  setpoint : s.cc.setpoint = busSetpoint s.ss.table s.cc.mode s.cc.tc
  limitA : s.cc.limitA = stringLimit s.ss.table .strA
  limitB : s.cc.limitB = if s.au.acctB.isSome then some (stringLimit s.ss.table .strB) else none
  total : s.cc.total =
    if s.cc.mode = .restricted then (s.cc.limitA + s.cc.limitB.getD 0) / 2 else s.cc.limitA + s.cc.limitB.getD 0

theorem recompute_formed (s : State) : ChargeFormed (recompute s) := ⟨rfl, rfl, rfl, rfl, rfl⟩

/-- A charge evaluation ends by forming the results, whatever became of the mode before (R44 step 4). -/
theorem chargeEval_formed (s : State) : ChargeFormed (chargeEval s) := recompute_formed _

/-! ### The evaluations that follow the charge evaluation (R124, R154) -/

/-- `t` is `s` but for the RQU, the SHC and the port records. -/
def OnlyRequestsAndShed (s t : State) : Prop := t = { s with rqu := t.rqu, shc := t.shc, pc := t.pc }

theorem OnlyRequestsAndShed.trans {a b c : State} (h : OnlyRequestsAndShed a b) (h' : OnlyRequestsAndShed b c) :
    OnlyRequestsAndShed a c := by
  unfold OnlyRequestsAndShed at *; rw [h']; rw [h]

theorem OnlyRequestsAndShed.ss {s t : State} (h : OnlyRequestsAndShed s t) : t.ss = s.ss := by
  unfold OnlyRequestsAndShed at h; rw [h]

/-- What leaves the units the results are formed from leaves them formed. -/
theorem ChargeFormed.of_onlyRequestsAndShed {s t : State} (hs : ChargeFormed s) (h : OnlyRequestsAndShed s t) : ChargeFormed t := by
  unfold OnlyRequestsAndShed at h
  rw [h]
  exact ⟨hs.tc, hs.setpoint, hs.limitA, hs.limitB, hs.total⟩

theorem batteryStep_onlyRequestsAndShed (s : State) : OnlyRequestsAndShed s (batteryStep s) := by
  unfold batteryStep createRecord
  dsimp only
  split
  · split <;> split <;> rfl
  · split <;> rfl

theorem requestEval_onlyRequestsAndShed (s : State) : OnlyRequestsAndShed s (requestEval s) := by
  have hfuel : OnlyRequestsAndShed s (formFuelIndications s) := rfl
  refine (hfuel.trans (batteryStep_onlyRequestsAndShed _)).trans ?_
  unfold requestEval
  dsimp only
  split <;> rfl

theorem stageDisconnect_onlyRequestsAndShed (before : Vector Stage 4) (k : Fin 4) (s : State) :
    OnlyRequestsAndShed s (stageDisconnect before k s) := by
  unfold stageDisconnect
  dsimp only
  split
  · rfl
  · split
    · split <;> rfl
    · split <;> rfl

theorem stageReconnect_onlyRequestsAndShed (k : Fin 4) (s : State) : OnlyRequestsAndShed s (stageReconnect k s) := by
  have hcount : OnlyRequestsAndShed s (countReconnect k s) := by
    unfold countReconnect
    dsimp only
    split <;> rfl
  refine hcount.trans ?_
  unfold stageReconnect
  dsimp only
  split <;> rfl

/-- The stages' turns, S1 first, by induction on the stages still to come. -/
theorem shcEval_onlyRequestsAndShed (s : State) : OnlyRequestsAndShed s (shcEval s) := by
  have hspacing : OnlyRequestsAndShed s (s.withShc { s.shc with spacing := bump 65535 s.shc.spacing }) := rfl
  refine hspacing.trans ?_
  unfold shcEval shcBelow stagesBelow
  generalize s.withShc { s.shc with spacing := bump 65535 s.shc.spacing } = x
  generalize (List.finRange 4).filter (fun k => k.val < 4) = l
  induction l generalizing x with
  | nil => rfl
  | cons k rest ih =>
    exact ((stageDisconnect_onlyRequestsAndShed _ k x).trans (stageReconnect_onlyRequestsAndShed k _)).trans (ih _)

theorem updateStep_onlyRequestsAndShed (s : State) : OnlyRequestsAndShed (updateCharge s) (updateStep s) :=
  (requestEval_onlyRequestsAndShed _).trans (shcEval_onlyRequestsAndShed _)

/-! ### The whole account update -/

/-- An account update leaves the charge results formed from the state it ends in. -/
theorem updateStep_formed (s : State) : ChargeFormed (updateStep s) :=
  (chargeEval_formed (updateSnap s)).of_onlyRequestsAndShed (updateStep_onlyRequestsAndShed s)

theorem updateStep_table (s : State) : (updateStep s).ss.table = s.ss.table :=
  calc (updateStep s).ss.table
      = (updateCharge s).ss.table := congrArg Ss.table (updateStep_onlyRequestsAndShed s).ss
    _ = (auUpdate s).ss.table := congrArg Ss.table (chargeEval_frame (updateSnap s)).ss
    _ = s.ss.table := auUpdate_table s

/-! ### The figures (R53 to R55) -/

/-- The highest usable temperature of the existing strings, brought to 0 to 400, or 250 with none (R53). -/
theorem compensation_eq (s : State) :
    (s.compensation : Int) = match (s.analog 4).usable, if s.au.acctB.isSome then (s.analog 5).usable else none with
      | none, none => 250
      | some x, none => max 0 (min 400 x)
      | none, some y => max 0 (min 400 y)
      | some x, some y => max 0 (min 400 (max x y)) := by
  have hcast (v : Int) : ((max 0 (min 400 v)).toNat : Int) = max 0 (min 400 v) := by omega
  unfold State.compensation State.strings
  by_cases hB : s.au.acctB.isSome
  · cases hx : (s.analog 4).usable <;> cases hy : (s.analog 5).usable <;> simp [hB, hx, hy, chTemp, hcast]
  · cases hx : (s.analog 4).usable <;> simp [hB, hx, chTemp, hcast]

/-- The rounding of R54: the magnitude to the nearest whole number, a half counting up, with the sign put back. -/
theorem roundNearest_eq_sign_mul (n : Int) : roundNearest n 10000 = n.sign * ((n.natAbs + 5000) / 10000 : Nat) := by
  unfold roundNearest
  rcases Int.lt_trichotomy n 0 with hneg | rfl | hpos
  · rw [Int.sign_eq_neg_one_of_neg hneg, if_neg (by omega)]
    omega
  · rfl
  · rw [Int.sign_eq_one_of_pos hpos, if_pos (by omega)]
    omega

theorem clampTo_cast (lo hi : Nat) (v : Int) : (clampTo lo hi v : Int) = max (lo : Int) (min (hi : Int) v) := by
  unfold clampTo
  omega

/-- The bus setpoint for a per-cell setting and an offset taken off, in the rule's own terms (R54, R55). -/
def ruleVolts (t : Settings) (tc : Nat) (cell : Setting) (off : Int) : Int :=
  let n : Int := t.val .slope * ((tc : Int) - 250)
  max (t.val .vbusMin) (min (t.val .vbusMax)
    (t.val .cells * (t.val cell - n.sign * ((n.natAbs + 5000) / 10000 : Nat)) - off))

theorem ruleVolts_le_of_le (t : Settings) (tc : Nat) (cell : Setting) {off off' : Int} (h : off' ≤ off) :
    ruleVolts t tc cell off ≤ ruleVolts t tc cell off' := by
  unfold ruleVolts
  dsimp only
  omega

/-- The setting R54 gives each mode, and the 1,200 mV taken off in RESTRICTED (R55). -/
theorem busSetpoint_eq_ruleVolts (t : Settings) (mode : ChargeMode) (tc : Nat) :
    (busSetpoint t mode tc : Int) = match mode with
      | .float => ruleVolts t tc .vfCell 0
      | .restricted => ruleVolts t tc .vfCell 1200
      | .boost | .refresh => ruleVolts t tc .vbCell 0 := by
  unfold busSetpoint perCell ruleVolts
  rw [clampTo_cast, roundNearest_eq_sign_mul]
  cases mode <;> rfl

/-- Settles O26: the charge evaluation forms the results (R44), the evaluations after it leave them formed, and the formed figures are those of R53,
R54, R55 and R57; in RESTRICTED the setpoint stays at or below FLOAT's since both are clamped to one range (R55). -/
theorem chargeResultsAreFormed : Obligations.ChargeResultsAreFormed := by
  unfold Obligations.ChargeResultsAreFormed
  intro s
  refine ⟨updateStep s, rfl, ?_⟩
  have hformed := updateStep_formed s
  have htable := updateStep_table s
  generalize updateStep s = t at hformed htable ⊢
  obtain ⟨htc, hsetpoint, hlimitA, hlimitB, htotal⟩ := hformed
  have hvolts := busSetpoint_eq_ruleVolts t.ss.table t.cc.mode t.cc.tc
  rw [← hsetpoint, htable] at hvolts
  rw [htable] at hlimitA hlimitB
  refine ⟨?_, ⟨?_, ?_, ?_⟩, hlimitA, hlimitB, htotal⟩
  · rw [htc]
    exact compensation_eq t
  · intro hmode
    rw [hmode] at hvolts
    exact hvolts
  · intro hmode
    rw [hmode] at hvolts
    exact ⟨hvolts, Int.le_trans (Int.le_of_eq hvolts) (ruleVolts_le_of_le _ _ _ (by decide))⟩
  · rintro (hmode | hmode)
    all_goals
      rw [hmode] at hvolts
      exact hvolts

end Sys2Proof.Machine

namespace Sys2Proof.Machine

/-! The counts of a minute event (O53): the clock and the run minutes are written once each, by their own steps (R170, R91). The boost timer, which
comes between, leaves the link records that tell the output states; the rotation and the RQU's minute work, which follow, leave both counts. -/

/-! ### The clock and the run minutes -/

/-- The clock and the run minutes of a slot. -/
def State.minuteCounts (s : State) (k : Slot) : Clk × Nat := (s.clk, (s.mod k).runMinutes)

theorem State.clk_of_minuteCounts {s t : State} {k : Slot} (h : t.minuteCounts k = s.minuteCounts k) : t.clk = s.clk := congrArg Prod.fst h

theorem State.runMinutes_of_minuteCounts {s t : State} {k : Slot} (h : t.minuteCounts k = s.minuteCounts k) :
    (t.mod k).runMinutes = (s.mod k).runMinutes := congrArg Prod.snd h

@[simp] theorem minuteCounts_ite (c : Prop) [Decidable c] (a b : State) (k : Slot) :
    (if c then a else b).minuteCounts k = if c then a.minuteCounts k else b.minuteCounts k := by
  split <;> rfl

/-! ### Updates of one unit's part, and notices -/

@[simp] theorem State.withCc_minuteCounts (s : State) (x : Cc) (k : Slot) : (s.withCc x).minuteCounts k = s.minuteCounts k := rfl
@[simp] theorem State.withRqu_minuteCounts (s : State) (x : Rqu) (k : Slot) : (s.withRqu x).minuteCounts k = s.minuteCounts k := rfl
@[simp] theorem State.onPort_minuteCounts (s : State) (q : Port) (f : PortRec → PortRec) (k : Slot) :
    (s.onPort q f).minuteCounts k = s.minuteCounts k := rfl
@[simp] theorem raiseTo_minuteCounts (q : Port) (n : Notice) (s : State) (k : Slot) : (raiseTo q n s).minuteCounts k = s.minuteCounts k := rfl
@[simp] theorem raiseAll_minuteCounts (n : Notice) (s : State) (k : Slot) : (raiseAll n s).minuteCounts k = s.minuteCounts k := rfl

@[simp] theorem State.withRc_minuteCounts (s : State) (x : Rc) (k : Slot) (h : x.mods = s.rc.mods) :
    (s.withRc x).minuteCounts k = s.minuteCounts k := by
  simp only [State.minuteCounts, State.mod, State.withRc_rc, State.withRc_clk, h]

/-- An update made to every service record alike keeps the run minutes where it keeps those of one record. -/
theorem State.withRc_minuteCounts_of_vmap {s : State} {x : Rc} {f : Module → Module} (h : x.mods = vmap f s.rc.mods)
    (hf : ∀ m, (f m).runMinutes = m.runMinutes) (k : Slot) : (s.withRc x).minuteCounts k = s.minuteCounts k := by
  simp only [State.minuteCounts, State.mod, State.withRc_rc, State.withRc_clk, h, vmap_get, hf]

@[simp] theorem State.setMod_minuteCounts (s : State) (j : Slot) (m : Module) (h : m.runMinutes = (s.mod j).runMinutes) (k : Slot) :
    (s.setMod j m).minuteCounts k = s.minuteCounts k := by
  have hmod : ((s.setMod j m).mod k).runMinutes = (s.mod k).runMinutes := by
    by_cases hk : k = j
    · rw [hk, State.setMod_mod, h]
    · rw [State.setMod_mod_of_ne s m hk]
  exact Prod.ext rfl hmod

/-! ### Service states and demand (R79 to R86) -/

@[simp] theorem placeService_minuteCounts (j : Slot) (st : Service) (s : State) (k : Slot) :
    (placeService j st s).minuteCounts k = s.minuteCounts k := by
  simp [placeService]

@[simp] theorem followSwap_minuteCounts (j : Slot) (old new : Service) (s : State) (k : Slot) :
    (followSwap j old new s).minuteCounts k = s.minuteCounts k := by
  unfold followSwap
  split <;> simp

@[simp] theorem setService_minuteCounts (j : Slot) (st : Service) (s : State) (k : Slot) :
    (setService j st s).minuteCounts k = s.minuteCounts k := by
  simp [setService]

@[simp] theorem startModule_minuteCounts (timed : Bool) (j : Slot) (s : State) (k : Slot) :
    (startModule timed j s).minuteCounts k = s.minuteCounts k := by
  simp [startModule]

@[simp] theorem startHead_minuteCounts (s : State) (k : Slot) : (startHead s).minuteCounts k = s.minuteCounts k := by
  unfold startHead
  split <;> simp

@[simp] theorem relieveSkips_minuteCounts (s : State) (k : Slot) : (relieveSkips s).minuteCounts k = s.minuteCounts k := by
  unfold relieveSkips
  split
  · rfl
  · exact State.withRc_minuteCounts_of_vmap rfl (fun _ => by rfl) k

@[simp] theorem placeValues_minuteCounts (s : State) (k : Slot) : (placeValues s).minuteCounts k = s.minuteCounts k :=
  State.withRc_minuteCounts_of_vmap rfl (fun _ => by rfl) k

@[simp] theorem formNeed_minuteCounts (s : State) (k : Slot) : (formNeed s).minuteCounts k = s.minuteCounts k := rfl
@[simp] theorem updateQueue_minuteCounts (s : State) (k : Slot) : (updateQueue s).minuteCounts k = s.minuteCounts k := rfl

@[simp] theorem updateRemoval_minuteCounts (s : State) (k : Slot) : (updateRemoval s).minuteCounts k = s.minuteCounts k := by
  simp [updateRemoval]

@[simp] theorem demandEval_minuteCounts (s : State) (k : Slot) : (demandEval s).minuteCounts k = s.minuteCounts k := by
  simp [demandEval]

/-! ### The charge mode and the boost timer (R43, R48, R52) -/

@[simp] theorem setMode_minuteCounts (mode : ChargeMode) (boost : Option Nat) (s : State) (k : Slot) :
    (setMode mode boost s).minuteCounts k = s.minuteCounts k := by
  simp [setMode, recompute]

@[simp] theorem boostTimerStep_minuteCounts (s : State) (k : Slot) : (boostTimerStep s).minuteCounts k = s.minuteCounts k := by
  simp [boostTimerStep, endBoost]

/-- The boost timer leaves the link records, of which the present output states are formed (R73). -/
theorem boostTimerStep_presentOutput (s : State) (k : Slot) : (boostTimerStep s).presentOutput k = s.presentOutput k := by
  have hframe : OnlySupply s (boostTimerStep s) := by
    unfold boostTimerStep
    split
    · exact (onlySupply_withCc s _).trans (setMode_frame _ _ _)
    · split <;> rfl
  unfold OnlySupply at hframe
  rw [hframe]
  rfl

theorem askBoost_minuteCounts {minutes : Nat} {s t : State} (h : askBoost minutes s = some t) (k : Slot) :
    t.minuteCounts k = s.minuteCounts k := by
  unfold askBoost at h
  split at h <;> cases h <;> simp

/-! ### Rotation (R95) -/

@[simp] theorem rotationEvent_minuteCounts (s : State) (k : Slot) : (rotationEvent s).minuteCounts k = s.minuteCounts k := by
  have hskips (x : Rc) (h : x.mods = vmap (fun m => { m with skip := false }) s.rc.mods) : (s.withRc x).minuteCounts k = s.minuteCounts k :=
    State.withRc_minuteCounts_of_vmap h (fun _ => rfl) k
  unfold rotationEvent
  dsimp only
  split
  · exact hskips _ rfl
  · split
    · exact hskips _ rfl
    · split
      · exact hskips _ rfl
      · rw [demandEval_minuteCounts, startModule_minuteCounts]
        exact hskips _ rfl

@[simp] theorem rotationMinute_minuteCounts (s : State) (k : Slot) : (rotationMinute s).minuteCounts k = s.minuteCounts k := by
  simp [rotationMinute]

/-! ### The RQU's minute work (R139) -/

@[simp] theorem burnStep_minuteCounts (s : State) (k : Slot) : (burnStep s).minuteCounts k = s.minuteCounts k := by
  simp [burnStep]

@[simp] theorem reconcileStep_minuteCounts (s : State) (k : Slot) : (reconcileStep s).minuteCounts k = s.minuteCounts k := by
  unfold reconcileStep
  split <;> simp [reconcileWith]

@[simp] theorem raiseDone_minuteCounts (r : RunReq) (s : State) (k : Slot) : (raiseDone r s).minuteCounts k = s.minuteCounts k := by
  unfold raiseDone
  split <;> simp

@[simp] theorem servedStep_minuteCounts (s : State) (k : Slot) : (servedStep s).minuteCounts k = s.minuteCounts k := by
  have hdone (l : List RunReq) (x : State) : (l.foldl (fun y r => raiseDone r y) x).minuteCounts k = x.minuteCounts k := by
    induction l generalizing x with
    | nil => rfl
    | cons r rest ih => exact (ih _).trans (raiseDone_minuteCounts r x k)
  exact hdone _ s

@[simp] theorem actEntry_minuteCounts (e : SchedEntry) (s : State) (k : Slot) : (actEntry e s).minuteCounts k = s.minuteCounts k := by
  unfold actEntry
  split
  · simp [createRecord]
  · cases h : askBoost (e.duration.getD 0) s with
    | none => rfl
    | some t => exact askBoost_minuteCounts h k
  · exact rotationEvent_minuteCounts s k

@[simp] theorem takeEntry_minuteCounts (e : SchedEntry) (rest : List SchedEntry) (now : Nat) (s : State) (k : Slot) :
    (takeEntry e rest now s).minuteCounts k = s.minuteCounts k := by
  simp [takeEntry, raiseScheduleDone]

@[simp] theorem takeDue_minuteCounts (n now : Nat) (s : State) (k : Slot) : (takeDue n now s).minuteCounts k = s.minuteCounts k := by
  induction n generalizing s with
  | zero => rfl
  | succ n ih =>
    unfold takeDue
    split
    · rfl
    · simp [ih]

@[simp] theorem scheduleStep_minuteCounts (s : State) (k : Slot) : (scheduleStep s).minuteCounts k = s.minuteCounts k := by
  simp [scheduleStep]

@[simp] theorem formFuelIndications_minuteCounts (s : State) (k : Slot) : (formFuelIndications s).minuteCounts k = s.minuteCounts k := rfl
@[simp] theorem refreshRequests_minuteCounts (s : State) (k : Slot) : (refreshRequests s).minuteCounts k = s.minuteCounts k := rfl

@[simp] theorem rquMinute_minuteCounts (s : State) (k : Slot) : (rquMinute s).minuteCounts k = s.minuteCounts k := by
  simp [rquMinute]

/-! ### The two steps that count (R91, R170) -/

theorem clockStep_clk (s : State) : (clockStep s).clk =
    if s.clk.isSet = false then s.clk
    else if s.clk.minute < 1439 then ⟨s.clk.day, s.clk.minute + 1, true⟩
    else if s.clk.day < 65535 then ⟨s.clk.day + 1, 0, true⟩ else s.clk := by
  unfold clockStep
  cases hset : s.clk.isSet with
  | false => rfl
  | true =>
    simp only [Bool.not_true, Bool.false_eq_true, Bool.true_eq_false, if_false]
    split
    · exact congrArg (Clk.mk _ _) hset
    · split
      · exact congrArg (Clk.mk _ _) hset
      · rfl

/-- The clock's advance leaves everything else. -/
theorem clockStep_frame (s : State) : clockStep s = s.withClk (clockStep s).clk := by
  unfold clockStep
  repeat' split
  all_goals rfl

/-- R91 counts the outputs ON and LIMIT; UNKNOWN, OFF and FAULT do not count. -/
theorem outputCounts_iff (o : Option OutState) : o.elim false OutState.isOn = true ↔ o = some .on ∨ o = some .limit := by
  rcases o with _ | _ | _ | _ | _ <;> decide

theorem runMinutesStep_runMinutes (s : State) (k : Slot) : ((runMinutesStep s).mod k).runMinutes =
    if s.presentOutput k = some .on ∨ s.presentOutput k = some .limit then min 16777215 ((s.mod k).runMinutes + 1)
    else (s.mod k).runMinutes := by
  simp only [runMinutesStep, State.withRc_rc, State.mod, vgen_get, ← outputCounts_iff]
  split <;> rfl

/-- The rotation and the RQU's minute work leave the counts as the run minutes' step has them. -/
theorem minuteStep_minuteCounts (s : State) (k : Slot) : (minuteStep s).minuteCounts k = (minuteRun s).minuteCounts k := by
  simp [minuteStep, minuteRotation]

theorem minuteStep_clk (s : State) : (minuteStep s).clk = (clockStep s).clk :=
  calc (minuteStep s).clk = (minuteRun s).clk := State.clk_of_minuteCounts (minuteStep_minuteCounts s 0)
    _ = (minuteCharge s).clk := rfl
    _ = (clockStep s).clk := State.clk_of_minuteCounts (boostTimerStep_minuteCounts (clockStep s) 0)

theorem minuteCharge_presentOutput (s : State) (k : Slot) : (minuteCharge s).presentOutput k = s.presentOutput k := by
  unfold minuteCharge
  rw [boostTimerStep_presentOutput, clockStep_frame]
  rfl

theorem minuteCharge_runMinutes (s : State) (k : Slot) : ((minuteCharge s).mod k).runMinutes = (s.mod k).runMinutes := by
  unfold minuteCharge
  rw [State.runMinutes_of_minuteCounts (boostTimerStep_minuteCounts (clockStep s) k), clockStep_frame]
  rfl

/-- Settles O53: after the minute event the clock is as its own step leaves it, and the run minutes are as R91's step leaves them, which finds the
output states and the counts of the state before. -/
theorem minuteEventCounts : Obligations.MinuteEventCounts := by
  unfold Obligations.MinuteEventCounts
  intro s
  refine ⟨minuteStep s, rfl, ?_, fun k => ?_⟩
  · rw [minuteStep_clk, clockStep_clk]
  · calc ((minuteStep s).mod k).runMinutes = ((minuteRun s).mod k).runMinutes := State.runMinutes_of_minuteCounts (minuteStep_minuteCounts s k)
      _ = _ := runMinutesStep_runMinutes (minuteCharge s) k
      _ = _ := by rw [minuteCharge_presentOutput, minuteCharge_runMinutes]

end Sys2Proof.Machine

namespace Sys2Proof.Machine

/-! The fuel account over a minute event (O45): what comes before the RQU's minute work leaves all that the burn and the reconcile read, but for the
RUNNING modules (R135); what comes after them in that work leaves their figures and the notices they raised (R139). -/

/-! ### The minute event before the RQU's minute work (R170) -/

/-- `t` is `s` but for the CC, the RC, the port records and the clock. -/
def OnlyChargeRcClock (s t : State) : Prop := t = { s with cc := t.cc, rc := t.rc, pc := t.pc, clk := t.clk }

theorem OnlyChargeRcClock.trans {a b c : State} (h : OnlyChargeRcClock a b) (h' : OnlyChargeRcClock b c) : OnlyChargeRcClock a c := by
  unfold OnlyChargeRcClock at *; rw [h']; rw [h]

theorem OnlyRc.onlyChargeRcClock {s t : State} (h : OnlyRc s t) : OnlyChargeRcClock s t := by
  unfold OnlyRc at h; unfold OnlyChargeRcClock; rw [h]

theorem clockStep_onlyChargeRcClock (s : State) : OnlyChargeRcClock s (clockStep s) := by
  rw [clockStep_frame]; rfl

theorem setMode_onlyChargeRcClock (mode : ChargeMode) (boost : Option Nat) (s : State) : OnlyChargeRcClock s (setMode mode boost s) := by
  unfold setMode
  split
  · rfl
  · have hmode (x : Cc) : OnlyChargeRcClock s (raiseAll .chargeMode (recompute (s.withCc x))) := rfl
    exact (hmode _).trans (demandEval_frame _).onlyChargeRcClock

theorem boostTimerStep_onlyChargeRcClock (s : State) : OnlyChargeRcClock s (boostTimerStep s) := by
  unfold boostTimerStep
  split
  · have hcc (x : Cc) : OnlyChargeRcClock s (s.withCc x) := rfl
    exact (hcc _).trans (setMode_onlyChargeRcClock _ _ _)
  · split <;> rfl

theorem rotationMinute_onlyRc (s : State) : OnlyRc s (rotationMinute s) := by
  unfold rotationMinute
  dsimp only
  split
  · exact (onlyRc_withRc s _).trans (rotationEvent_frame _)
  · rfl

theorem minuteRotation_onlyChargeRcClock (s : State) : OnlyChargeRcClock s (minuteRotation s) :=
  (((clockStep_onlyChargeRcClock s).trans (boostTimerStep_onlyChargeRcClock _)).trans
    (onlyRc_withRc _ _ : OnlyRc _ (runMinutesStep _)).onlyChargeRcClock).trans (rotationMinute_onlyRc _).onlyChargeRcClock

@[simp] theorem minuteRotation_rqu (s : State) : (minuteRotation s).rqu = s.rqu := by
  rw [minuteRotation_onlyChargeRcClock s]

@[simp] theorem minuteRotation_sc (s : State) : (minuteRotation s).sc = s.sc := by
  rw [minuteRotation_onlyChargeRcClock s]

@[simp] theorem minuteRotation_cfg (s : State) (k : Setting) : (minuteRotation s).cfg k = s.cfg k := by
  rw [minuteRotation_onlyChargeRcClock s]; rfl

@[simp] theorem minuteRotation_running (s : State) : (minuteRotation s).running = s.running := by
  rw [minuteRotation_onlyChargeRcClock s]; rfl

@[simp] theorem minuteRotation_analog (s : State) (ch : Fin 12) : (minuteRotation s).analog ch = s.analog ch := by
  rw [minuteRotation_onlyChargeRcClock s]; rfl

@[simp] theorem minuteRotation_reconcileLevel (s : State) : (minuteRotation s).reconcileLevel = s.reconcileLevel := by
  simp [State.reconcileLevel]

@[simp] theorem minuteRotation_isRefuel (s : State) (figure : Nat) : (minuteRotation s).isRefuel figure = s.isRefuel figure := by
  simp [State.isRefuel]

@[simp] theorem minuteRotation_hasDrifted (s : State) (figure : Nat) : (minuteRotation s).hasDrifted figure = s.hasDrifted figure := by
  simp [State.hasDrifted]

@[simp] theorem minuteRotation_reconcileNow (s : State) : reconcileNow (minuteRotation s) = reconcileNow s := by
  simp [reconcileNow]

/-! ### The figures of the fuel account, and the notices that stay pending -/

/-- The figures that the burn and the reconcile write (R135, R137). -/
structure FuelFigures where
  fuel : Nat
  residue : Nat
  burnRate : Nat
  reconcileCount : Nat
  reconcileDue : Bool
  lastReading : Option Nat

/-- The fuel figures as the RQU holds them. -/
def Rqu.figures (r : Rqu) : FuelFigures := ⟨r.fuel, r.residue, r.burnRate, r.reconcileCount, r.reconcileDue, r.lastReading⟩

theorem Rqu.figures_eq_iff {r : Rqu} {f : FuelFigures} : r.figures = f ↔
    r.fuel = f.fuel ∧ r.residue = f.residue ∧ r.burnRate = f.burnRate ∧ r.reconcileCount = f.reconcileCount ∧
      r.reconcileDue = f.reconcileDue ∧ r.lastReading = f.lastReading := by
  cases f
  simp [Rqu.figures]

/-- From `s` to `t` the fuel figures stand and every pending notice stays pending. -/
structure KeepsFuel (s t : State) : Prop where
  figures : t.rqu.figures = s.rqu.figures
  notices : ∀ (q : Port) (n : Notice), PendingAt q n s → PendingAt q n t

theorem KeepsFuel.refl (s : State) : KeepsFuel s s := ⟨rfl, fun _ _ h => h⟩

theorem KeepsFuel.trans {a b c : State} (h : KeepsFuel a b) (h' : KeepsFuel b c) : KeepsFuel a c :=
  ⟨h'.figures.trans h.figures, fun q n hp => h'.notices q n (h.notices q n hp)⟩

theorem KeepsFuel.ite {p : Prop} [Decidable p] {s a b : State} (ha : KeepsFuel s a) (hb : KeepsFuel s b) :
    KeepsFuel s (if p then a else b) := by
  split
  · exact ha
  · exact hb

/-- Actions that each keep the figures and the notices keep them in turn. -/
theorem foldl_keepsFuel {α : Type} (f : State → α → State) (h : ∀ x a, KeepsFuel x (f x a)) (l : List α) (s : State) :
    KeepsFuel s (l.foldl f s) := by
  induction l generalizing s with
  | nil => exact .refl s
  | cons a rest ih => exact (h s a).trans (ih (f s a))

theorem keepsFuel_withCc (s : State) (x : Cc) : KeepsFuel s (s.withCc x) := ⟨rfl, fun _ _ h => h⟩
theorem keepsFuel_withRc (s : State) (x : Rc) : KeepsFuel s (s.withRc x) := ⟨rfl, fun _ _ h => h⟩
theorem keepsFuel_setMod (s : State) (k : Slot) (m : Module) : KeepsFuel s (s.setMod k m) := ⟨rfl, fun _ _ h => h⟩

theorem keepsFuel_withRqu {s : State} {x : Rqu} (h : x.figures = s.rqu.figures) : KeepsFuel s (s.withRqu x) := ⟨h, fun _ _ hp => hp⟩

/-- A notice raised at a port record takes no pending notice out of it. -/
theorem PortRec.raise_pending (m n : Notice) (p : PortRec) (h : p.pendingSet &&& n.bit ≠ 0#13) :
    (p.raise m).pendingSet &&& n.bit ≠ 0#13 := by
  rw [PortRec.raise_pendingSet]
  rw [BitVec.and_or_distrib_right]
  exact fun hzero => h (BitVec.or_eq_zero_iff.mp hzero).1

theorem keepsFuel_onPort (s : State) (q : Port) {f : PortRec → PortRec}
    (h : ∀ (p : PortRec) (n : Notice), p.pendingSet &&& n.bit ≠ 0#13 → (f p).pendingSet &&& n.bit ≠ 0#13) : KeepsFuel s (s.onPort q f) := by
  refine ⟨rfl, fun p n hp => ?_⟩
  unfold PendingAt at hp ⊢
  by_cases hq : p = q
  · subst hq
    rw [State.onPort_port]
    exact h _ _ hp
  · rwa [State.onPort_port_of_ne s f hq]

theorem raiseTo_keepsFuel (q : Port) (m : Notice) (s : State) : KeepsFuel s (raiseTo q m s) :=
  keepsFuel_onPort s q fun p n => p.raise_pending m n

theorem raiseAll_keepsFuel (m : Notice) (s : State) : KeepsFuel s (raiseAll m s) := by
  refine ⟨rfl, fun q n hp => ?_⟩
  unfold PendingAt
  rw [raiseAll_port]
  exact (s.port q).raise_pending m n hp

/-- A notice raised to all ports is pending at all ports (R163). -/
theorem raiseAll_pendingAll (n : Notice) (s : State) : PendingAll n (raiseAll n s) := by
  intro q
  have hbit : n.bit ≠ 0#13 := by cases n <;> decide
  unfold PendingAt
  rw [raiseAll_port, PortRec.raise_pendingSet, BitVec.and_or_distrib_right, BitVec.and_self]
  exact fun hzero => hbit (BitVec.or_eq_zero_iff.mp hzero).2

theorem KeepsFuel.pendingAll {s t : State} (h : KeepsFuel s t) {n : Notice} (hp : PendingAll n s) : PendingAll n t :=
  fun q => h.notices q n (hp q)

/-! ### Service states, demand and rotation (R79 to R86, R95) -/

theorem placeService_keepsFuel (k : Slot) (st : Service) (s : State) : KeepsFuel s (placeService k st s) := by
  have hraise (m : Module) : KeepsFuel s (raiseAll .moduleChange (s.setMod k m)) :=
    (keepsFuel_setMod s k m).trans (raiseAll_keepsFuel _ _)
  unfold placeService
  exact .ite (.refl s) (.ite (hraise _) ((hraise _).trans (keepsFuel_withRc _ _)))

theorem followSwap_keepsFuel (k : Slot) (old new : Service) (s : State) : KeepsFuel s (followSwap k old new s) := by
  unfold followSwap
  split
  · exact .refl s
  · have hended := keepsFuel_withRc s { s.rc with swap := none }
    exact .ite (.ite (hended.trans (placeService_keepsFuel _ _ _)) hended) (.ite hended (.refl s))

theorem setService_keepsFuel (k : Slot) (st : Service) (s : State) : KeepsFuel s (setService k st s) := by
  unfold setService
  exact .ite (.refl s) ((placeService_keepsFuel k st s).trans (followSwap_keepsFuel _ _ _ _))

theorem startModule_keepsFuel (timed : Bool) (k : Slot) (s : State) : KeepsFuel s (startModule timed k s) := by
  have hstart (m : Module) : KeepsFuel s ((setService k .starting s).setMod k m) :=
    (setService_keepsFuel k .starting s).trans (keepsFuel_setMod _ _ _)
  unfold startModule
  exact .ite ((hstart _).trans (keepsFuel_withRc _ _)) (hstart _)

theorem startHead_keepsFuel (s : State) : KeepsFuel s (startHead s) := by
  unfold startHead
  split
  · exact .ite (startModule_keepsFuel _ _ s) (.refl s)
  · exact .refl s

theorem relieveSkips_keepsFuel (s : State) : KeepsFuel s (relieveSkips s) := by
  unfold relieveSkips
  exact .ite (.refl s) (keepsFuel_withRc s _)

theorem updateRemoval_keepsFuel (s : State) : KeepsFuel s (updateRemoval s) := by
  unfold updateRemoval
  exact .ite (keepsFuel_withRc s _) (keepsFuel_withRc s _)

theorem demandEval_keepsFuel (s : State) : KeepsFuel s (demandEval s) := by
  have hneed : KeepsFuel s (formNeed s) := keepsFuel_withRc s _
  have hqueue (x : State) : KeepsFuel x (updateQueue x) := keepsFuel_withRc x _
  have hplace (x : State) : KeepsFuel x (placeValues x) := keepsFuel_withRc x _
  unfold demandEval
  refine .ite ?_ (.refl s)
  have hstart := (hneed.trans (relieveSkips_keepsFuel _)).trans ((hqueue _).trans (startHead_keepsFuel _))
  exact (hstart.trans (updateRemoval_keepsFuel _)).trans ((hplace _).trans (relieveSkips_keepsFuel _))

theorem rotationEvent_keepsFuel (s : State) : KeepsFuel s (rotationEvent s) := by
  have hrc (x : Rc) : KeepsFuel s (s.withRc x) := keepsFuel_withRc s x
  unfold rotationEvent
  dsimp only
  refine .ite (hrc _) (.ite (hrc _) ?_)
  split
  · exact hrc _
  · exact (hrc _).trans ((startModule_keepsFuel _ _ _).trans (demandEval_keepsFuel _))

/-! ### What the RQU's minute work does after the reconcile (R129, R133) -/

theorem setMode_keepsFuel (mode : ChargeMode) (boost : Option Nat) (s : State) : KeepsFuel s (setMode mode boost s) := by
  have hcc (x y : Cc) : KeepsFuel s ((s.withCc x).withCc y) := (keepsFuel_withCc s x).trans (keepsFuel_withCc _ y)
  unfold setMode
  exact .ite (.refl s) ((hcc _ _).trans ((raiseAll_keepsFuel _ _).trans (demandEval_keepsFuel _)))

theorem askBoost_keepsFuel {minutes : Nat} {s t : State} (h : askBoost minutes s = some t) : KeepsFuel s t := by
  unfold askBoost at h
  split at h
  · cases h
  · cases h; exact keepsFuel_withCc s _
  all_goals cases h; exact setMode_keepsFuel _ _ s

theorem createRecord_keepsFuel (reason : Reason) (o : Origin) (cls : ReqClass) (onLoad : Bool) (minutes : Option Nat) (s : State) :
    KeepsFuel s (createRecord reason o cls onLoad minutes s) := by
  unfold createRecord
  exact .ite (keepsFuel_withRqu rfl) (keepsFuel_withRqu rfl)

theorem actEntry_keepsFuel (e : SchedEntry) (s : State) : KeepsFuel s (actEntry e s) := by
  unfold actEntry
  split
  · exact createRecord_keepsFuel _ _ _ _ _ s
  · cases h : askBoost (e.duration.getD 0) s with
    | none => exact .refl s
    | some t => exact askBoost_keepsFuel h
  · exact rotationEvent_keepsFuel s

theorem raiseScheduleDone_keepsFuel (e : SchedEntry) (s : State) : KeepsFuel s (raiseScheduleDone e s) := by
  unfold raiseScheduleDone
  have hdetail : KeepsFuel s (s.onPort e.origin fun p => { p with schedDone := some (e.kind, e.due) }) :=
    keepsFuel_onPort s e.origin fun _ _ hp => hp
  exact .ite (hdetail.trans (raiseTo_keepsFuel _ _ _)) (.refl s)

theorem takeEntry_keepsFuel (e : SchedEntry) (rest : List SchedEntry) (now : Nat) (s : State) : KeepsFuel s (takeEntry e rest now s) := by
  have hout : KeepsFuel s (s.withRqu { s.rqu with schedule := rest }) := keepsFuel_withRqu rfl
  exact ((hout.trans (actEntry_keepsFuel e _)).trans (raiseScheduleDone_keepsFuel e _)).trans (keepsFuel_withRqu rfl)

theorem takeDue_keepsFuel (n now : Nat) (s : State) : KeepsFuel s (takeDue n now s) := by
  induction n generalizing s with
  | zero => exact .refl s
  | succ n ih =>
    unfold takeDue
    split
    · exact .refl s
    · exact .ite ((takeEntry_keepsFuel _ _ _ s).trans (ih _)) (.refl s)

theorem scheduleStep_keepsFuel (s : State) : KeepsFuel s (scheduleStep s) := by
  unfold scheduleStep
  exact .ite (takeDue_keepsFuel _ _ s) (.refl s)

theorem raiseDone_keepsFuel (r : RunReq) (s : State) : KeepsFuel s (raiseDone r s) := by
  unfold raiseDone
  split
  · exact raiseTo_keepsFuel _ _ s
  · exact .refl s

theorem servedStep_keepsFuel (s : State) : KeepsFuel s (servedStep s) :=
  (foldl_keepsFuel _ (fun x r => raiseDone_keepsFuel r x) _ s).trans (keepsFuel_withRqu rfl)

theorem formFuelIndications_keepsFuel (s : State) : KeepsFuel s (formFuelIndications s) := keepsFuel_withRqu rfl

theorem refreshRequests_keepsFuel (s : State) : KeepsFuel s (refreshRequests s) := keepsFuel_withRqu rfl

/-- After the reconcile a minute event leaves the fuel figures and the notices raised (R139). -/
theorem minuteStep_keepsFuel (s : State) : KeepsFuel (reconcileStep (burnStep (minuteRotation s))) (minuteStep s) :=
  (((formFuelIndications_keepsFuel _).trans (servedStep_keepsFuel _)).trans (scheduleStep_keepsFuel _)).trans (refreshRequests_keepsFuel _)

/-! ### The burn and the reconcile (R135, R137) -/

theorem burnStep_of_running {s : State} (h : s.running = some true) : burnStep s = s.withRqu { s.rqu with
    fuel := s.rqu.fuel - (s.rqu.residue + s.burnRateNow) / 60
    residue := (s.rqu.residue + s.burnRateNow) % 60
    burnRate := s.burnRateNow } := by
  unfold burnStep
  rw [if_pos h]

theorem burnStep_of_not_running {s : State} (h : s.running ≠ some true) : burnStep s = s := by
  unfold burnStep
  rw [if_neg h]

theorem burnStep_running (s : State) : (burnStep s).running = s.running := by
  unfold burnStep
  split <;> rfl

/-- The burn rate at a minute event counts the modules RUNNING after its rotation. -/
theorem burnRateNow_minuteRotation (s : State) : (minuteRotation s).burnRateNow = s.cfg .burnIdle + (s.cfg .burnFull - s.cfg .burnIdle) *
    (if s.sc.seq.state = .onLoad then min (minuteRotation s).runningCount (s.cfg .genCap) else 0) / s.cfg .genCap := by
  simp [State.burnRateNow]

theorem reconcileLevel_eq_none_iff (s : State) : s.reconcileLevel = none ↔ s.running ≠ some false ∨ (s.analog 11).usable = none := by
  unfold State.reconcileLevel
  by_cases hstands : s.running = some false
  · simp [hstands, chFuel]
  · simp [hstands]

theorem reconcileLevel_of_standing {s : State} {level : Nat} (hstands : s.running = some false)
    (hlevel : (s.analog 11).usable = some (level : Int)) : s.reconcileLevel = some level := by
  simp [State.reconcileLevel, chFuel, hstands, hlevel]

/-- A refuel is seen against the last reconcile reading, so none is seen while that is absent (R137, step 2). -/
theorem isRefuel_iff (s : State) (figure : Nat) : s.isRefuel figure = true ↔
    ∃ x, s.rqu.lastReading = some x ∧ x + s.cfg .tankL * s.cfg .refuelStepPct / 10 < figure := by
  unfold State.isRefuel
  cases s.rqu.lastReading <;> simp

theorem reconcileStep_of_none {s : State} (h : s.reconcileLevel = none) :
    reconcileStep s = s.withRqu { s.rqu with reconcileCount := 0 } := by
  unfold reconcileStep
  rw [h]

theorem reconcileStep_of_counting {s : State} {level : Nat} (hlevel : s.reconcileLevel = some level) (h : reconcileNow s = false) :
    reconcileStep s = s.withRqu { s.rqu with reconcileCount := s.rqu.reconcileCount + 1 } := by
  unfold reconcileStep
  rw [hlevel]
  simp [h]

theorem reconcileStep_of_due {s : State} {level : Nat} (hlevel : s.reconcileLevel = some level) (h : reconcileNow s = true) :
    reconcileStep s = reconcileWith level s := by
  unfold reconcileStep
  rw [hlevel]
  simp [h]

theorem reconcileNow_iff {s : State} {level : Nat} (hlevel : s.reconcileLevel = some level) :
    reconcileNow s = true ↔ s.rqu.reconcileDue = true ∨ 14 ≤ s.rqu.reconcileCount := by
  simp [reconcileNow, hlevel]

/-- A reconcile takes the sender's figure after a refuel or for drift, and keeps F otherwise (R137). -/
theorem reconcileWith_figures (level : Nat) (s : State) : (reconcileWith level s).rqu.figures =
    let figure := level * s.cfg .tankL / 100
    ⟨if s.isRefuel figure || s.hasDrifted figure then figure else s.rqu.fuel, s.rqu.residue, s.rqu.burnRate, 0, false, some figure⟩ := by
  unfold reconcileWith
  dsimp only
  split <;> rfl

theorem reconcileWith_pendingAll {level : Nat} {s : State} (h : s.isRefuel (level * s.cfg .tankL / 100) = true) :
    PendingAll .refuel (reconcileWith level s) := by
  unfold reconcileWith
  dsimp only
  rw [if_pos h]
  exact raiseAll_pendingAll _ _

/-! ### The fuel figures after a minute event -/

/-- With the engine running a minute event burns fuel and starts the reconcile count afresh. -/
theorem minuteStep_figures_of_running {s : State} (h : s.running = some true) : (minuteStep s).rqu.figures =
    let rate := (minuteRotation s).burnRateNow
    ⟨s.rqu.fuel - (s.rqu.residue + rate) / 60, (s.rqu.residue + rate) % 60, rate, 0, s.rqu.reconcileDue, s.rqu.lastReading⟩ := by
  have hrun : (minuteRotation s).running = some true := (minuteRotation_running s).trans h
  have hnone : (burnStep (minuteRotation s)).reconcileLevel = none :=
    (reconcileLevel_eq_none_iff _).mpr (.inl (by simp [burnStep_running, hrun]))
  rw [(minuteStep_keepsFuel s).figures, reconcileStep_of_none hnone, burnStep_of_running hrun]
  simp [Rqu.figures]

/-- With the engine not known to run no fuel burns, and the reconcile alone moves the figures. -/
theorem minuteStep_keepsFuel_of_not_running {s : State} (h : s.running ≠ some true) :
    KeepsFuel (reconcileStep (minuteRotation s)) (minuteStep s) := by
  have hburn : burnStep (minuteRotation s) = minuteRotation s := burnStep_of_not_running (by rwa [minuteRotation_running])
  have hkeeps := minuteStep_keepsFuel s
  rwa [hburn] at hkeeps

theorem minuteStep_figures_of_no_level {s : State} (h : s.running ≠ some true) (hnone : s.reconcileLevel = none) :
    (minuteStep s).rqu.figures = { s.rqu.figures with reconcileCount := 0 } := by
  rw [(minuteStep_keepsFuel_of_not_running h).figures, reconcileStep_of_none (by rwa [minuteRotation_reconcileLevel])]
  simp [Rqu.figures]

theorem minuteStep_figures_of_counting {s : State} {level : Nat} (h : s.running ≠ some true) (hlevel : s.reconcileLevel = some level)
    (hnot : reconcileNow s = false) :
    (minuteStep s).rqu.figures = { s.rqu.figures with reconcileCount := s.rqu.reconcileCount + 1 } := by
  rw [(minuteStep_keepsFuel_of_not_running h).figures,
    reconcileStep_of_counting ((minuteRotation_reconcileLevel s).trans hlevel) ((minuteRotation_reconcileNow s).trans hnot)]
  simp [Rqu.figures]

theorem minuteStep_keepsFuel_of_due {s : State} {level : Nat} (h : s.running ≠ some true) (hlevel : s.reconcileLevel = some level)
    (hdue : reconcileNow s = true) : KeepsFuel (reconcileWith level (minuteRotation s)) (minuteStep s) := by
  have hkeeps := minuteStep_keepsFuel_of_not_running h
  rwa [reconcileStep_of_due ((minuteRotation_reconcileLevel s).trans hlevel) ((minuteRotation_reconcileNow s).trans hdue)] at hkeeps

theorem exec_reconcile_of_due {s : State} (h : s.running ≠ some true) (hdue : reconcileNow s = true) :
    exec .reconcile s = .next (minuteStep s) := by
  have hburn : burnStep (minuteRotation s) = minuteRotation s := burnStep_of_not_running (by rwa [minuteRotation_running])
  have hnow : reconcileNow (burnStep (minuteRotation s)) = true := by rw [hburn, minuteRotation_reconcileNow, hdue]
  change takenWhen (reconcileNow (burnStep (minuteRotation s))) (minuteStep s) s = _
  rw [hnow]
  rfl

/-- Settles O45: the burn, the count and the reconcile find what they read as the minute event found it, but for the modules RUNNING, and the rest of
the RQU's minute work leaves the figures and the REFUEL notices as they leave them (R135, R137, R139). -/
theorem fuelBurnsAndReconciles : Obligations.FuelBurnsAndReconciles := by
  unfold Obligations.FuelBurnsAndReconciles
  refine ⟨fun s hrun => ?_, fun s hrun hno => ?_, fun s hstands level hlevel => ?_⟩
  · obtain ⟨hfuel, hresidue, hrate, hcount, hdue, hlast⟩ := Rqu.figures_eq_iff.mp (minuteStep_figures_of_running hrun)
    rw [burnRateNow_minuteRotation] at hfuel hresidue hrate
    exact ⟨minuteStep s, rfl, ⟨hrate, hfuel, hresidue⟩, hcount, hdue, hlast⟩
  · have hnone : s.reconcileLevel = none := (reconcileLevel_eq_none_iff s).mpr (hno.imp_left fun h => by simp [h])
    obtain ⟨hfuel, hresidue, hrate, hcount, hdue, hlast⟩ := Rqu.figures_eq_iff.mp (minuteStep_figures_of_no_level hrun hnone)
    exact ⟨minuteStep s, rfl, hfuel, hresidue, hrate, hcount, hdue, hlast⟩
  · have hrun : s.running ≠ some true := by simp [hstands]
    have hrec : s.reconcileLevel = some level := reconcileLevel_of_standing hstands hlevel
    refine ⟨fun hclear hbelow => ?_, fun hwhen => ?_⟩
    · have hnot : reconcileNow s = false := by
        rw [← Bool.not_eq_true, reconcileNow_iff hrec]
        simp [hclear, hbelow]
      obtain ⟨hfuel, hresidue, -, hcount, -, hlast⟩ := Rqu.figures_eq_iff.mp (minuteStep_figures_of_counting hrun hrec hnot)
      exact ⟨minuteStep s, rfl, hcount, hfuel, hresidue, hlast⟩
    · have hnow : reconcileNow s = true := (reconcileNow_iff hrec).mpr hwhen
      have hkeeps := minuteStep_keepsFuel_of_due hrun hrec hnow
      obtain ⟨hfuel, hresidue, -, hcount, hdue, hlast⟩ :=
        Rqu.figures_eq_iff.mp (hkeeps.figures.trans (reconcileWith_figures level (minuteRotation s)))
      simp only [minuteRotation_cfg, minuteRotation_isRefuel, minuteRotation_hasDrifted, minuteRotation_rqu] at hfuel hresidue hlast
      refine ⟨minuteStep s, exec_reconcile_of_due hrun hnow, hcount, hdue, hresidue, hlast, fun hrefuel => ?_, fun hrefuel => ?_⟩
      · rw [← isRefuel_iff] at hrefuel
        refine ⟨by simpa [hrefuel] using hfuel, hkeeps.pendingAll (reconcileWith_pendingAll ?_)⟩
        rwa [minuteRotation_cfg, minuteRotation_isRefuel]
      · rw [← isRefuel_iff, Bool.not_eq_true] at hrefuel
        simpa [hrefuel, State.hasDrifted] using hfuel

end Sys2Proof.Machine

namespace Sys2Proof.Machine

/-! SHED STAGE and RESTORE STAGE (O52): a new request's answer by the tests of R160, then the stages as R156 leaves them. The stages up to the one
named are moved one by one, each move touching its own stage only; the follow time that R154 passes on reaches the stages above, and no state.
`KeepsFuel` is used for its half about notices: what is raised once stays pending to the end of the request. -/

/-! ### A new request's answer (R159, R160) -/

theorem NewRequest.takeFor_eq {c : Request} {q : Port} {f : Frame} {s : State} (h : NewRequest c q f s) (hargs : c.argCount ≤ 12)
    (hsetUp : c.setUpBy ≤ 4) : takeFor c q f s =
      answered c q f (c.outcome q f.index.toNat f.args s).status (c.outcome q f.index.toNat f.args s).data
        (c.outcome q f.index.toNat f.args s).after :=
  takeFor_new c q f s (by simp [h.running]) h.args hargs h.sum h.fresh (by rw [h.running]; exact hsetUp)

theorem Request.outcome_of_no_object {c : Request} {i : Nat} {a : List Byte} {s : State} (q : Port) (h : c.objectExists s i a = false) :
    c.outcome q i a s = refuse .range s := by
  simp [Request.outcome, h]

theorem Request.outcome_of_object {c : Request} {i : Nat} {a : List Byte} {s : State} (q : Port) (h : c.objectExists s i a = true) :
    c.outcome q i a s = if c.heldOff && s.holdsOff q then refuse .held s else c.serve q i a s := by
  simp [Request.outcome, h]

theorem State.holdsOff_iff (s : State) (q : Port) : s.holdsOff q = true ↔ s.pc.siteHold = true ∧ q ≠ .craft := by
  simp [State.holdsOff]

theorem answered_responded (c : Request) (q : Port) (f : Frame) (st : Status) (data : List Byte) (t : State) :
    Responded c q f st data (answered c q f st data t) := by
  simp [Responded, answered, giveAndKeep]

@[simp] theorem answered_shc (c : Request) (q : Port) (f : Frame) (st : Status) (data : List Byte) (t : State) :
    (answered c q f st data t).shc = t.shc := rfl

@[simp] theorem answered_stage (c : Request) (q : Port) (f : Frame) (st : Status) (data : List Byte) (t : State) (j : Fin 4) :
    (answered c q f st data t).stage j = t.stage j := rfl

theorem answered_keepsFuel (c : Request) (q : Port) (f : Frame) (st : Status) (data : List Byte) (t : State) :
    KeepsFuel t (answered c q f st data t) := keepsFuel_onPort t q fun _ _ h => h

/-! ### Requests whose object is a stage (R156) -/

theorem stageExists_eq_false_iff (s : State) (i : Nat) (a : List Byte) : stageExists s i a = false ↔ i = 0 ∨ 4 < i := by
  simp [stageExists]
  omega

theorem stageOf_val {i : Nat} (h : ¬ (i = 0 ∨ 4 < i)) : (stageOf i).val + 1 = i := by
  simp [stageOf]
  omega

/-- A new acting request on a stage: RANGE for a stage that does not exist, HELD under a site hold, else what the SHC answers (R156). -/
theorem NewRequest.takeFor_stage {c : Request} {q : Port} {f : Frame} {s : State} (h : NewRequest c q f s) (hargs : c.argCount ≤ 12)
    (hsetUp : c.setUpBy ≤ 4) (hobject : c.objectExists = stageExists) (hheld : c.heldOff = true) : takeFor c q f s =
      if f.index.toNat = 0 ∨ 4 < f.index.toNat then answered c q f (.rejected .range) [] s
      else if s.pc.siteHold = true ∧ q ≠ .craft then answered c q f (.rejected .held) [] s
      else answered c q f (c.serve q f.index.toNat f.args s).status (c.serve q f.index.toNat f.args s).data
        (c.serve q f.index.toNat f.args s).after := by
  rw [h.takeFor_eq hargs hsetUp]
  split
  · next hrange =>
    rw [Request.outcome_of_no_object q (by rwa [hobject, stageExists_eq_false_iff])]
    rfl
  · next hrange =>
    have hexists : c.objectExists s f.index.toNat f.args = true := by
      rwa [hobject, ← Bool.not_eq_false, stageExists_eq_false_iff]
    rw [Request.outcome_of_object q hexists, hheld, Bool.true_and]
    simp only [State.holdsOff_iff]
    split <;> rfl

/-! ### One stage moved (R153, R156) -/

@[simp] theorem raiseAll_stage (n : Notice) (s : State) (k : Fin 4) : (raiseAll n s).stage k = s.stage k := rfl

theorem setStage_keepsFuel (k : Fin 4) (x : Stage) (s : State) : KeepsFuel s (s.setStage k x) := ⟨rfl, fun _ _ h => h⟩

theorem openStage_keepsFuel (k : Fin 4) (st : StageState) (s : State) : KeepsFuel s (openStage k st s) :=
  (setStage_keepsFuel k _ s).trans (raiseAll_keepsFuel _ _)

/-- A stage's record after a SHED STAGE that reaches it, being the stage named or below it (R156). -/
def Stage.shed (isNamed : Bool) (x : Stage) : Stage :=
  { x with
    state := if x.state = .closed ∨ (isNamed ∧ x.state = .openAuto) then .openManual else x.state,
    waiting := false, follow := none }

theorem shedOne_stage_self (named k : Fin 4) (s : State) : (shedOne named k s).stage k = (s.stage k).shed (k = named) := by
  unfold shedOne
  dsimp only
  split
  · next hopens => simp [openStage, Stage.shed, hopens]
  · next hstays => simp [Stage.shed, hstays]

theorem shedOne_stage_of_ne (named : Fin 4) {j k : Fin 4} (s : State) (h : j ≠ k) : (shedOne named k s).stage j = s.stage j := by
  unfold shedOne openStage
  dsimp only
  split
  · rw [raiseAll_stage, State.setStage_stage_of_ne _ _ h]
  · exact State.setStage_stage_of_ne _ _ h

theorem shedOne_keepsFuel (named k : Fin 4) (s : State) : KeepsFuel s (shedOne named k s) :=
  .ite (openStage_keepsFuel _ _ _) (setStage_keepsFuel _ _ _)

/-- The stage named opens or turns manual, with its notice, unless it was OPEN-MANUAL already (R153, R156). -/
theorem shedOne_named_pendingAll {named : Fin 4} {s : State} (h : (s.stage named).state ≠ .openManual) :
    PendingAll .shedChange (shedOne named named s) := by
  have hopens : (s.stage named).state = .closed ∨ named = named ∧ (s.stage named).state = .openAuto := by
    cases hx : (s.stage named).state <;> simp_all
  unfold shedOne
  rw [if_pos hopens]
  exact raiseAll_pendingAll _ _

/-! ### The stages up to the one named (R156) -/

/-- The stages of a list shed in turn. -/
def shedEach (named : Fin 4) (l : List (Fin 4)) (s : State) : State := l.foldl (fun x k => shedOne named k x) s

theorem shedEach_stage_of_not_mem (named : Fin 4) {l : List (Fin 4)} {j : Fin 4} (h : j ∉ l) (s : State) :
    (shedEach named l s).stage j = s.stage j := by
  induction l generalizing s with
  | nil => rfl
  | cons k rest ih =>
    obtain ⟨hk, hrest⟩ := not_or.mp (mt List.mem_cons.mpr h)
    exact (ih hrest _).trans (shedOne_stage_of_ne named s hk)

theorem shedEach_stage_of_mem (named : Fin 4) {l : List (Fin 4)} (hl : l.Nodup) {j : Fin 4} (h : j ∈ l) (s : State) :
    (shedEach named l s).stage j = (s.stage j).shed (j = named) := by
  induction l generalizing s with
  | nil => cases h
  | cons k rest ih =>
    obtain ⟨hnot, hrest⟩ := List.nodup_cons.mp hl
    rcases List.mem_cons.mp h with rfl | hmem
    · exact (shedEach_stage_of_not_mem named hnot _).trans (shedOne_stage_self named j s)
    · have hne : j ≠ k := fun e => hnot (e ▸ hmem)
      exact (ih hrest hmem _).trans (by rw [shedOne_stage_of_ne named s hne])

theorem shedEach_keepsFuel (named : Fin 4) (l : List (Fin 4)) (s : State) : KeepsFuel s (shedEach named l s) :=
  foldl_keepsFuel _ (fun x k => shedOne_keepsFuel named k x) l s

theorem shedEach_pendingAll {named : Fin 4} {l : List (Fin 4)} (hmem : named ∈ l) {s : State} (h : (s.stage named).state ≠ .openManual) :
    PendingAll .shedChange (shedEach named l s) := by
  induction l generalizing s with
  | nil => cases hmem
  | cons k rest ih =>
    by_cases hk : named = k
    · subst hk
      exact (shedEach_keepsFuel named rest _).pendingAll (shedOne_named_pendingAll h)
    · exact ih (List.mem_of_ne_of_mem hk hmem) (by rwa [shedOne_stage_of_ne named s hk])

/-! ### The stages above the one named (R154) -/

/-- A stage above the one named takes its follow time where it waits and the stage directly below has just opened. -/
def passFollow (before : Vector Stage 4) (k : Fin 4) (x : State) : State :=
  if (x.stage k).waiting && x.justBelowOpened before k then x.setStage k { x.stage k with follow := some 2 } else x

/-- The follow times passed on to the stages of a list in turn. -/
def passFollows (before : Vector Stage 4) (l : List (Fin 4)) (s : State) : State := l.foldl (fun x k => passFollow before k x) s

theorem shedUpTo_eq (named : Fin 4) (s : State) : shedUpTo named s =
    passFollows s.shc.stages ((List.finRange 4).filter fun k => named < k)
      (shedEach named ((List.finRange 4).filter fun k => k ≤ named) s) := rfl

theorem passFollow_stage_of_ne (before : Vector Stage 4) {j k : Fin 4} (s : State) (h : j ≠ k) :
    (passFollow before k s).stage j = s.stage j := by
  unfold passFollow
  split
  · exact State.setStage_stage_of_ne _ _ h
  · rfl

theorem passFollow_state (before : Vector Stage 4) (j k : Fin 4) (s : State) :
    ((passFollow before k s).stage j).state = (s.stage j).state := by
  by_cases h : j = k
  · subst h
    unfold passFollow
    split
    · rw [State.setStage_stage]
    · rfl
  · rw [passFollow_stage_of_ne before s h]

theorem passFollow_keepsFuel (before : Vector Stage 4) (k : Fin 4) (s : State) : KeepsFuel s (passFollow before k s) :=
  .ite (setStage_keepsFuel _ _ _) (.refl s)

theorem passFollows_stage_of_not_mem (before : Vector Stage 4) {l : List (Fin 4)} {j : Fin 4} (h : j ∉ l) (s : State) :
    (passFollows before l s).stage j = s.stage j := by
  induction l generalizing s with
  | nil => rfl
  | cons k rest ih =>
    obtain ⟨hk, hrest⟩ := not_or.mp (mt List.mem_cons.mpr h)
    exact (ih hrest _).trans (passFollow_stage_of_ne before s hk)

theorem passFollows_state (before : Vector Stage 4) (l : List (Fin 4)) (j : Fin 4) (s : State) :
    ((passFollows before l s).stage j).state = (s.stage j).state := by
  induction l generalizing s with
  | nil => rfl
  | cons k rest ih => exact (ih _).trans (passFollow_state before j k s)

/-! ### SHED STAGE (R156) -/

theorem shedUpTo_stage_of_le {named j : Fin 4} (h : j ≤ named) (s : State) :
    (shedUpTo named s).stage j = (s.stage j).shed (j = named) := by
  rw [shedUpTo_eq, passFollows_stage_of_not_mem _ (by simpa using h)]
  exact shedEach_stage_of_mem named ((List.nodup_finRange 4).filter _) (by simpa using h) s

/-- A stage below the one named opens if it was CLOSED, and keeps its kind of opening otherwise. -/
theorem shedUpTo_below {named j : Fin 4} (h : j < named) (s : State) : ((shedUpTo named s).stage j).waiting = false ∧
    ((shedUpTo named s).stage j).follow = none ∧ ((shedUpTo named s).stage j).state =
      if (s.stage j).state = .closed then .openManual else (s.stage j).state := by
  rw [shedUpTo_stage_of_le (Fin.le_of_lt h)]
  simp [Stage.shed, Fin.ne_of_lt h]

/-- The stage named becomes OPEN-MANUAL whatever it was. -/
theorem shedUpTo_named (named : Fin 4) (s : State) : ((shedUpTo named s).stage named).state = .openManual ∧
    ((shedUpTo named s).stage named).waiting = false ∧ ((shedUpTo named s).stage named).follow = none := by
  rw [shedUpTo_stage_of_le (Fin.le_refl named)]
  cases hwas : (s.stage named).state <;> simp [Stage.shed, hwas]

theorem shedUpTo_state_of_gt {named j : Fin 4} (h : named < j) (s : State) :
    ((shedUpTo named s).stage j).state = (s.stage j).state := by
  rw [shedUpTo_eq, passFollows_state, shedEach_stage_of_not_mem named (by simpa using h)]

theorem shedUpTo_pendingAll {named : Fin 4} {s : State} (h : (s.stage named).state ≠ .openManual) :
    PendingAll .shedChange (shedUpTo named s) := by
  have hshed := shedEach_pendingAll (l := (List.finRange 4).filter fun k => k ≤ named) (by simp) h
  exact (foldl_keepsFuel _ (fun x k => passFollow_keepsFuel s.shc.stages k x) _ _).pendingAll hshed

/-! ### RESTORE STAGE (R156) -/

theorem closeStage_stage (k : Fin 4) (s : State) : (closeStage k s).stage k = ⟨.closed, 0, false, none, 0⟩ :=
  State.setStage_stage s k _

theorem closeStage_stage_of_ne {j k : Fin 4} (s : State) (h : j ≠ k) : (closeStage k s).stage j = s.stage j :=
  State.setStage_stage_of_ne s _ h

theorem closeStage_spacing (k : Fin 4) (s : State) : (closeStage k s).shc.spacing = 0 := rfl

theorem closeStage_pendingAll (k : Fin 4) (s : State) : PendingAll .shedChange (closeStage k s) := raiseAll_pendingAll _ _

theorem State.isHighestOpen_iff (s : State) (k : Fin 4) :
    s.isHighestOpen k = true ↔ (s.stage k).state ≠ .closed ∧ ∀ j, k < j → (s.stage j).state = .closed := by
  have hclear (j : Fin 4) : (!decide (k < j) || !(s.stage j).isOpen) = true ↔ (k < j → (s.stage j).state = .closed) := by
    by_cases hj : k < j <;> simp [Stage.isOpen, hj]
  rw [State.isHighestOpen, Bool.and_eq_true, List.all_eq_true]
  exact and_congr (by simp [Stage.isOpen]) ⟨fun h j => (hclear j).mp (h j (List.mem_finRange j)), fun h j _ => (hclear j).mpr (h j)⟩

/-- The stage is the highest open one, OPEN-MANUAL, or OPEN-AUTO with its reconnect condition (R156). -/
theorem State.mayRestore_iff (s : State) (k : Fin 4) : s.mayRestore k = true ↔ (∀ j, k < j → (s.stage j).state = .closed) ∧
    ((s.stage k).state = .openManual ∨ (s.stage k).state = .openAuto ∧ s.recCond k = true) := by
  rw [State.mayRestore, Bool.and_eq_true, State.isHighestOpen_iff]
  cases (s.stage k).state <;> simp

/-- Settles O52: each request passes the tests of R160; SHED STAGE sheds the stages up to the one named and leaves the states above, and RESTORE STAGE
closes its stage exactly where R156's condition holds. -/
theorem shedRequestsMoveStages : Obligations.ShedRequestsMoveStages := by
  unfold Obligations.ShedRequestsMoveStages
  refine ⟨fun s q f hnew => ?_, fun s q f hnew => ?_⟩
  · have hexec : exec (.shedStage q f) s = .next (takeFor reqShedStage q f s) := rfl
    rw [hexec, hnew.takeFor_stage (by decide) (by decide) rfl rfl]
    split
    · rfl
    · next hrange =>
      have hindex := stageOf_val hrange
      split
      · rfl
      · refine ⟨_, rfl, answered_responded _ _ _ _ _ _, fun j => ⟨fun hbelow => ?_, fun hnamed => ?_, fun habove => ?_⟩⟩
        · have hlt : j < stageOf f.index.toNat := by rw [Fin.lt_def]; omega
          exact shedUpTo_below hlt s
        · obtain rfl : j = stageOf f.index.toNat := by rw [Fin.ext_iff]; omega
          obtain ⟨hstate, hwaiting, hfollow⟩ := shedUpTo_named (stageOf f.index.toNat) s
          exact ⟨hstate, hwaiting, hfollow, fun h => (answered_keepsFuel _ _ _ _ _ _).pendingAll (shedUpTo_pendingAll h)⟩
        · have hgt : stageOf f.index.toNat < j := by rw [Fin.lt_def]; omega
          exact shedUpTo_state_of_gt hgt s
  · have hexec : exec (.restoreStage q f) s = .next (takeFor reqRestoreStage q f s) := rfl
    rw [hexec, hnew.takeFor_stage (by decide) (by decide) rfl rfl]
    split
    · rfl
    · split
      · rfl
      · have hserve : reqRestoreStage.serve q f.index.toNat f.args s = if s.mayRestore (stageOf f.index.toNat) = true then
            acted (closeStage (stageOf f.index.toNat) s) else refuse .state s := rfl
        rw [hserve]
        simp only [State.mayRestore_iff]
        split
        · exact ⟨_, rfl, answered_responded _ _ _ _ _ _, closeStage_stage _ s, closeStage_spacing _ s,
            (answered_keepsFuel _ _ _ _ _ _).pendingAll (closeStage_pendingAll _ s), fun j hne => closeStage_stage_of_ne s hne⟩
        · rfl

end Sys2Proof.Machine
